-- ==== Sys2Proof/Word.lean ====
section
/-! DEFINITION. The word types of the block (00_scope.md R8, R11): every value the spec treats as bits is an
unsigned fixed-width word, and its `+`, `*`, `<<` wrap at that width, as R12 says. -/

namespace Sys2Proof

/-- SFMT-19937 and TinyMT32 words, command words (00_scope.md R8, 30_encoding.md R100). -/
abbrev U32 := BitVec 32

/-- xorshift1024* words and the interface registers (00_scope.md R8, 10_state.md R39, R44). -/
abbrev U64 := BitVec 64

/-- An SFMT-19937 lane (42_sfmt19937.md R201). -/
abbrev U128 := BitVec 128

end Sys2Proof
end

