-- ==== Sys2Proof/Syntax.lean ====
section
/-! DEFINITION. The 27 commands of 30_encoding.md R111, one constructor per row of spec/opcode_table.json, and the
error codes of 60_exceptions.md R301 by name. An IDX operand is the 10-bit field itself (R104): an index beyond the
engine's words is a command that fails, not a different command. -/

namespace Sys2Proof

/-- A command (30_encoding.md R109, R111). -/
inductive Instr where
  /-- `nop` (R130) -/
  | nop
  /-- `clrerr` (R131) -/
  | clrerr
  /-- `xs.ldw i` (R132) -/
  | xsLdw (idx : BitVec 10)
  /-- `sfmt.ldw i` (R133) -/
  | sfmtLdw (idx : BitVec 10)
  /-- `tmt.ldw i` (R134) -/
  | tmtLdw (idx : BitVec 10)
  /-- `xs.rdw i` (R135) -/
  | xsRdw (idx : BitVec 10)
  /-- `sfmt.rdw i` (R136) -/
  | sfmtRdw (idx : BitVec 10)
  /-- `tmt.rdw i` (R137) -/
  | tmtRdw (idx : BitVec 10)
  /-- `xs.ldp` (R138) -/
  | xsLdp
  /-- `sfmt.ldp` (R139) -/
  | sfmtLdp
  /-- `xs.rdp` (R140) -/
  | xsRdp
  /-- `sfmt.rdp` (R141) -/
  | sfmtRdp
  /-- `xs.erst` (R142) -/
  | xsErst
  /-- `sfmt.erst` (R143) -/
  | sfmtErst
  /-- `tmt.erst` (R144) -/
  | tmtErst
  /-- `xs.next` (R174) -/
  | xsNext
  /-- `xs.adv` (R175) -/
  | xsAdv
  /-- `xs.cert` (R176) -/
  | xsCert
  /-- `xs.arm` (R177) -/
  | xsArm
  /-- `sfmt.next` (R206) -/
  | sfmtNext
  /-- `sfmt.refill` (R207) -/
  | sfmtRefill
  /-- `sfmt.cert` (R210) -/
  | sfmtCert
  /-- `sfmt.arm` (R211) -/
  | sfmtArm
  /-- `tmt.next` (R243) -/
  | tmtNext
  /-- `tmt.adv` (R244) -/
  | tmtAdv
  /-- `tmt.cert` (R247) -/
  | tmtCert
  /-- `tmt.arm` (R248) -/
  | tmtArm
  deriving DecidableEq, Repr

/-- The error causes of 60_exceptions.md R301; their numbers are `ErrCode.code`. -/
inductive ErrCode where
  /-- E_ILLEGAL_OP: a reserved OP value -/
  | illegalOp
  /-- E_ILLEGAL_ENG: ENG = 3 with an operation that needs an engine -/
  | illegalEng
  /-- E_RSVD_BITS: a reserved or unused field is not 0 -/
  | rsvdBits
  /-- E_OP_ENGINE: operation not supported by the engine -/
  | opEngine
  /-- E_IDX_RANGE: index beyond the engine's words -/
  | idxRange
  /-- E_READ_ONLY: write to a fixed matrix word -/
  | readOnly
  /-- E_VALUE: DIN operand out of range -/
  | badValue
  /-- E_NOT_ARMED: engine not certified or re-armed -/
  | notArmed
  /-- E_DEGENERATE: state cannot be certified or re-armed -/
  | degenerate
  /-- E_BUSY: command presented while another is pending -/
  | busy
  /-- E_BUS: illegal bus access -/
  | bus
  deriving DecidableEq, Repr

/-- ENG values (30_encoding.md R103, 00_scope.md R18). -/
inductive Engine where
  /-- xorshift1024*, ENG = 0 -/
  | xs
  /-- SFMT-19937, ENG = 1 -/
  | sfmt
  /-- TinyMT32, ENG = 2 -/
  | tmt
  deriving DecidableEq, Repr

/-- OP values of the operations that need an engine (30_encoding.md R102). -/
inductive EngineOp where
  | ldw | rdw | ldp | rdp | next | adv | refill | cert | arm | erst
  deriving DecidableEq, Repr

/-- OP values (30_encoding.md R102): the two control operations, or one that needs an engine. -/
inductive Op where
  | nop
  | clrerr
  | engine (op : EngineOp)
  deriving DecidableEq, Repr

end Sys2Proof
end

