-- ==== Sys2Proof/WellFormed.lean ====
section
/-! DEFINITION. Which commands the index table of 30_encoding.md R104 calls legal. DEDUCED (log 17): well-formedness
is R104's legal range; an ill-formed command still has an encoding, still decodes, and fails when it is presented
(R110 step 6), so the machine gives it a meaning too. -/

namespace Sys2Proof

/-- IDX lies in the legal range of its engine and operation (30_encoding.md R104). Commands that take no index are
always well-formed. -/
def Instr.wellFormed : Instr → Bool
  | .xsLdw k => decide (k.toNat < 16)
  | .sfmtLdw k => decide (k.toNat < 624)
  | .tmtLdw k => decide (k.toNat < 4)
  | .xsRdw k => decide (k.toNat < 16)
  | .sfmtRdw k => decide (k.toNat < 624)
  | .tmtRdw k => decide (k.toNat < 7)
  | .nop | .clrerr | .xsLdp | .sfmtLdp | .xsRdp | .sfmtRdp | .xsErst | .sfmtErst | .tmtErst
  | .xsNext | .xsAdv | .xsCert | .xsArm | .sfmtNext | .sfmtRefill | .sfmtCert | .sfmtArm
  | .tmtNext | .tmtAdv | .tmtCert | .tmtArm => true

end Sys2Proof
end

