-- ==== Sys2Proof/Decode.lean ====
section
/-! DEFINITION. The decoder and the encoder of the 32-bit command word (30_encoding.md sections 1 to 5). The decoder
is the part of R110 that reads the word alone: steps 1 to 5 and the IDX check of step 6 for commands that do not use
IDX. The checks that read the operand or the state are `Machine.acceptCheck`. -/

namespace Sys2Proof

/-! ### Fields (R101) -/

/-- OP = cmd[3:0] -/
def opField (w : U32) : BitVec 4 := w.extractLsb' 0 4
/-- ENG = cmd[5:4] -/
def engField (w : U32) : BitVec 2 := w.extractLsb' 4 2
/-- RSV0 = cmd[7:6] -/
def rsv0Field (w : U32) : BitVec 2 := w.extractLsb' 6 2
/-- IDX = cmd[17:8] -/
def idxField (w : U32) : BitVec 10 := w.extractLsb' 8 10
/-- RSV1 = cmd[31:18] -/
def rsv1Field (w : U32) : BitVec 14 := w.extractLsb' 18 14

/-! ### Decoder -/

/-- OP values (R102); 0xA, 0xB, 0xC and 0xF are reserved (R107). -/
def opOf (v : BitVec 4) : Option Op :=
  match v.toNat with
  | 0x0 => some .nop
  | 0x1 => some (.engine .ldw)
  | 0x2 => some (.engine .rdw)
  | 0x3 => some (.engine .ldp)
  | 0x4 => some (.engine .rdp)
  | 0x5 => some (.engine .next)
  | 0x6 => some (.engine .adv)
  | 0x7 => some (.engine .refill)
  | 0x8 => some (.engine .cert)
  | 0x9 => some (.engine .arm)
  | 0xD => some (.engine .erst)
  | 0xE => some .clrerr
  | _ => none

/-- ENG values (R103); 3 is reserved. -/
def engineOf (v : BitVec 2) : Option Engine :=
  match v.toNat with
  | 0 => some .xs
  | 1 => some .sfmt
  | 2 => some .tmt
  | _ => none

/-- A command that does not use IDX requires it to be 0 (R104, R106; R110 step 6). -/
def withoutIndex (idx : BitVec 10) (i : Instr) : Except ErrCode Instr :=
  if idx = 0 then .ok i else .error .rsvdBits

/-- R110 steps 5 and 6 for an operation that needs an engine: the valid (OP, ENG) pairs of R102, and the IDX check of
the commands that do not use it. -/
def engineCommand (op : EngineOp) (e : Engine) (idx : BitVec 10) : Except ErrCode Instr :=
  match op, e with
  | .ldw, .xs => .ok (.xsLdw idx)
  | .ldw, .sfmt => .ok (.sfmtLdw idx)
  | .ldw, .tmt => .ok (.tmtLdw idx)
  | .rdw, .xs => .ok (.xsRdw idx)
  | .rdw, .sfmt => .ok (.sfmtRdw idx)
  | .rdw, .tmt => .ok (.tmtRdw idx)
  | .ldp, .xs => withoutIndex idx .xsLdp
  | .ldp, .sfmt => withoutIndex idx .sfmtLdp
  | .ldp, .tmt => .error .opEngine
  | .rdp, .xs => withoutIndex idx .xsRdp
  | .rdp, .sfmt => withoutIndex idx .sfmtRdp
  | .rdp, .tmt => .error .opEngine
  | .next, .xs => withoutIndex idx .xsNext
  | .next, .sfmt => withoutIndex idx .sfmtNext
  | .next, .tmt => withoutIndex idx .tmtNext
  | .adv, .xs => withoutIndex idx .xsAdv
  | .adv, .sfmt => .error .opEngine
  | .adv, .tmt => withoutIndex idx .tmtAdv
  | .refill, .xs => .error .opEngine
  | .refill, .sfmt => withoutIndex idx .sfmtRefill
  | .refill, .tmt => .error .opEngine
  | .cert, .xs => withoutIndex idx .xsCert
  | .cert, .sfmt => withoutIndex idx .sfmtCert
  | .cert, .tmt => withoutIndex idx .tmtCert
  | .arm, .xs => withoutIndex idx .xsArm
  | .arm, .sfmt => withoutIndex idx .sfmtArm
  | .arm, .tmt => withoutIndex idx .tmtArm
  | .erst, .xs => withoutIndex idx .xsErst
  | .erst, .sfmt => withoutIndex idx .sfmtErst
  | .erst, .tmt => withoutIndex idx .tmtErst

/-- R110 step 3: NOP and CLRERR require ENG = 0 and IDX = 0. -/
def controlCommand (w : U32) (i : Instr) : Except ErrCode Instr :=
  if engField w ≠ 0 ∨ idxField w ≠ 0 then .error .rsvdBits else .ok i

/-- The decoder: R110 steps 1 to 5 in their order, and step 6 for commands without an index. Total on every word; a
word that spells no command is rejected by the name of the first failing check. -/
def decode (w : U32) : Except ErrCode Instr :=
  if rsv0Field w ≠ 0 ∨ rsv1Field w ≠ 0 then .error .rsvdBits
  else
    match opOf (opField w) with
    | none => .error .illegalOp
    | some .nop => controlCommand w .nop
    | some .clrerr => controlCommand w .clrerr
    | some (.engine op) =>
      match engineOf (engField w) with
      | none => .error .illegalEng
      | some e => engineCommand op e (idxField w)

/-- The instruction the decoder reads from a table row's bits: a command is one 32-bit word (R100), so the bits ARE
the value written to CMD. -/
def decodeTableWord (nbits w : Nat) : Option Instr :=
  match decode (BitVec.ofNat 32 (w % 2 ^ nbits)) with
  | .ok i => some i
  | .error _ => none

/-! ### Encoder -/

/-- `cmd = (IDX << 8) | (ENG << 4) | OP` with RSV0 = RSV1 = 0 (R101). -/
def packWord (op : BitVec 4) (eng : BitVec 2) (idx : BitVec 10) : U32 :=
  (idx.setWidth 32 <<< 8) ||| (eng.setWidth 32 <<< 4) ||| op.setWidth 32

/-- The assembled word of a command (R101, R102, R103, R112). -/
def encode : Instr → U32
  | .nop => packWord 0x0 0 0
  | .clrerr => packWord 0xE 0 0
  | .xsLdw k => packWord 0x1 0 k
  | .sfmtLdw k => packWord 0x1 1 k
  | .tmtLdw k => packWord 0x1 2 k
  | .xsRdw k => packWord 0x2 0 k
  | .sfmtRdw k => packWord 0x2 1 k
  | .tmtRdw k => packWord 0x2 2 k
  | .xsLdp => packWord 0x3 0 0
  | .sfmtLdp => packWord 0x3 1 0
  | .xsRdp => packWord 0x4 0 0
  | .sfmtRdp => packWord 0x4 1 0
  | .xsErst => packWord 0xD 0 0
  | .sfmtErst => packWord 0xD 1 0
  | .tmtErst => packWord 0xD 2 0
  | .xsNext => packWord 0x5 0 0
  | .xsAdv => packWord 0x6 0 0
  | .xsCert => packWord 0x8 0 0
  | .xsArm => packWord 0x9 0 0
  | .sfmtNext => packWord 0x5 1 0
  | .sfmtRefill => packWord 0x7 1 0
  | .sfmtCert => packWord 0x8 1 0
  | .sfmtArm => packWord 0x9 1 0
  | .tmtNext => packWord 0x5 2 0
  | .tmtAdv => packWord 0x6 2 0
  | .tmtCert => packWord 0x8 2 0
  | .tmtArm => packWord 0x9 2 0

/-! ### The opcode map of R111, as the spec prints it -/

/-- One row of the opcode map: a word w is in the row when `w &&& mask = pattern`. -/
structure OpcodeRow where
  mnemonic : String
  pattern : U32
  mask : U32
  deriving DecidableEq, Repr

/-- The row of a command in R111's table. -/
def opcodeRow : Instr → OpcodeRow
  | .nop => ⟨"nop", 0x00000000, 0xFFFFFFFF⟩
  | .clrerr => ⟨"clrerr", 0x0000000E, 0xFFFFFFFF⟩
  | .xsLdw _ => ⟨"xs.ldw", 0x00000001, 0xFFFC00FF⟩
  | .sfmtLdw _ => ⟨"sfmt.ldw", 0x00000011, 0xFFFC00FF⟩
  | .tmtLdw _ => ⟨"tmt.ldw", 0x00000021, 0xFFFC00FF⟩
  | .xsRdw _ => ⟨"xs.rdw", 0x00000002, 0xFFFC00FF⟩
  | .sfmtRdw _ => ⟨"sfmt.rdw", 0x00000012, 0xFFFC00FF⟩
  | .tmtRdw _ => ⟨"tmt.rdw", 0x00000022, 0xFFFC00FF⟩
  | .xsLdp => ⟨"xs.ldp", 0x00000003, 0xFFFFFFFF⟩
  | .sfmtLdp => ⟨"sfmt.ldp", 0x00000013, 0xFFFFFFFF⟩
  | .xsRdp => ⟨"xs.rdp", 0x00000004, 0xFFFFFFFF⟩
  | .sfmtRdp => ⟨"sfmt.rdp", 0x00000014, 0xFFFFFFFF⟩
  | .xsErst => ⟨"xs.erst", 0x0000000D, 0xFFFFFFFF⟩
  | .sfmtErst => ⟨"sfmt.erst", 0x0000001D, 0xFFFFFFFF⟩
  | .tmtErst => ⟨"tmt.erst", 0x0000002D, 0xFFFFFFFF⟩
  | .xsNext => ⟨"xs.next", 0x00000005, 0xFFFFFFFF⟩
  | .xsAdv => ⟨"xs.adv", 0x00000006, 0xFFFFFFFF⟩
  | .xsCert => ⟨"xs.cert", 0x00000008, 0xFFFFFFFF⟩
  | .xsArm => ⟨"xs.arm", 0x00000009, 0xFFFFFFFF⟩
  | .sfmtNext => ⟨"sfmt.next", 0x00000015, 0xFFFFFFFF⟩
  | .sfmtRefill => ⟨"sfmt.refill", 0x00000017, 0xFFFFFFFF⟩
  | .sfmtCert => ⟨"sfmt.cert", 0x00000018, 0xFFFFFFFF⟩
  | .sfmtArm => ⟨"sfmt.arm", 0x00000019, 0xFFFFFFFF⟩
  | .tmtNext => ⟨"tmt.next", 0x00000025, 0xFFFFFFFF⟩
  | .tmtAdv => ⟨"tmt.adv", 0x00000026, 0xFFFFFFFF⟩
  | .tmtCert => ⟨"tmt.cert", 0x00000028, 0xFFFFFFFF⟩
  | .tmtArm => ⟨"tmt.arm", 0x00000029, 0xFFFFFFFF⟩

/-- The IDX operand of a command that has one. -/
def indexOperand : Instr → Option (BitVec 10)
  | .xsLdw k | .sfmtLdw k | .tmtLdw k | .xsRdw k | .sfmtRdw k | .tmtRdw k => some k
  | .nop | .clrerr | .xsLdp | .sfmtLdp | .xsRdp | .sfmtRdp | .xsErst | .sfmtErst | .tmtErst
  | .xsNext | .xsAdv | .xsCert | .xsArm | .sfmtNext | .sfmtRefill | .sfmtCert | .sfmtArm
  | .tmtNext | .tmtAdv | .tmtCert | .tmtArm => none

end Sys2Proof
end

