-- ==== Sys2Proof/Config.lean ====
section
/-! DEFINITION. The parameters of the block that 00_scope.md R9 marks OPEN, as plain data. "A model takes each
parameter marked OPEN as an argument" (R9): a value of `Params` stands in `State.cfg`, no step writes it, and a
statement about every state is a statement about every parameter set (log 1). The parameters R9 marks fixed are
written where the engine rules use them. -/

namespace Sys2Proof

/-- `SFMT_CERT_FIX` (00_scope.md R9, 42_sfmt19937.md R209). -/
inductive CertFix where
  /-- the lowest UNSET bit of the parity mask is set (the document's words) -/
  | doc
  /-- the lowest bit of the parity mask is flipped whatever its value (the reference implementation) -/
  | ref
  deriving DecidableEq, Repr

/-- The `LAT_*` parameters (70_reset_and_hazards.md R343), in cycles from acceptance to completion; a model cycle is
one step (log 3). -/
structure Latencies where
  /-- `LAT_REG`: NOP, CLRERR, LDW, RDW, LDP, RDP, and ARM of XS and TMT -/
  reg : Nat
  /-- `LAT_XSCERT`: xs.cert -/
  xsCert : Nat
  /-- `LAT_SFARM`: sfmt.arm -/
  sfArm : Nat
  /-- `LAT_XS`: xs.next, xs.adv -/
  xs : Nat
  /-- `LAT_TMT`: tmt.next, tmt.adv, tmt.cert -/
  tmt : Nat
  /-- `LAT_SF`: sfmt.next without refill, sfmt.cert -/
  sf : Nat
  /-- `LAT_SFREF`: sfmt.refill, sfmt.next with refill -/
  sfRef : Nat
  /-- `LAT_ERST`: xs.erst, sfmt.erst, tmt.erst -/
  erst : Nat
  deriving DecidableEq, Repr

/-- The values 70_reset_and_hazards.md R343 suggests (not normative). DESIGN CHOICE (log 3): `LAT_SFARM` is suggested
as "1 to 156", and the upper end is taken. -/
def Latencies.suggested : Latencies :=
  { reg := 1, xsCert := 1, sfArm := 156, xs := 1, tmt := 1, sf := 1, sfRef := 156, erst := 1 }

/-- "A model may take every latency as one step" (70_reset_and_hazards.md R343). -/
def Latencies.oneStep : Latencies :=
  { reg := 1, xsCert := 1, sfArm := 1, xs := 1, tmt := 1, sf := 1, sfRef := 1, erst := 1 }

/-- The OPEN parameters of the block itself (00_scope.md R9; 93_implementation_defined.md B21 to B28). `IMPL_ID` is 16
bits wide by its type, which is check K4. -/
structure Params where
  /-- `SFMT_MSK1..4`, `SFMT_MSK(m+1)` at index m -/
  sfmtMsk : Vector U32 4
  /-- `SFMT_PARITY1..4`, `SFMT_PARITY(m+1)` at index m -/
  sfmtParity : Vector U32 4
  /-- `SFMT_CERT_FIX` -/
  sfmtCertFix : CertFix
  /-- `TMT_MAT1`, read as TM.MAT1 (10_state.md R37) -/
  tmtMat1 : U32
  /-- `TMT_MAT2`, read as TM.MAT2 -/
  tmtMat2 : U32
  /-- `TMT_TMAT`, read as TM.TMAT -/
  tmtTmat : U32
  /-- `TMT_RESCUE` (43_tinymt32.md R246) -/
  tmtRescue : Vector U32 4
  /-- `BASE`, the address of the register window (20_memory.md R72) -/
  base : Nat
  /-- `IMPL_ID`, shown in ID[31:16] (10_state.md R45) -/
  implId : BitVec 16
  /-- `LAT_*` -/
  lat : Latencies
  deriving DecidableEq, Repr

/-- The defaults of 00_scope.md R9. PRESUMED (log 1): the spec itself marks the masks, parities, matrix words and the
rescue constant as general knowledge. DESIGN CHOICE (log 2): the spec gives no default for `BASE` and `IMPL_ID`; both
are 0 here. -/
def Params.default : Params :=
  { sfmtMsk := #v[0xdfffffef, 0xddfecb7f, 0xbffaffff, 0xbffffff6]
    sfmtParity := #v[0x00000001, 0x00000000, 0x00000000, 0x13c9e684]
    sfmtCertFix := .doc
    tmtMat1 := 0x8f7011ee
    tmtMat2 := 0xfc78ff1f
    tmtTmat := 0x3793fdff
    tmtRescue := #v[0x54, 0x49, 0x4e, 0x59]
    base := 0
    implId := 0
    lat := Latencies.suggested }

end Sys2Proof
end

