-- ==== Sys2Proof/Machine/State.lean ====
section
/-! DEFINITION. The block's architectural state (10_state.md R30), the events of its bus port, the stops of the model,
and the state after reset (R49). Plain data throughout. -/

namespace Sys2Proof.Machine

/-- One host bus access (20_memory.md R73; 00_scope.md R14): an absolute address of the host bus, a width in bytes,
and for a write the value, of which a 4-byte write uses the low 32 bits. -/
inductive Access where
  /-- `MemRead(addr, bytes)` -/
  | read (addr bytes : Nat)
  /-- `MemWrite(addr, bytes, value)` -/
  | write (addr bytes : Nat) (value : U64)
  /-- an instruction fetch, which no platform may make (93_implementation_defined.md B14) -/
  | fetch (addr : Nat)
  deriving DecidableEq, Repr

/-- What one step of the port brings (log 4). -/
inductive PortEvent where
  /-- the next host access, in arrival order (20_memory.md R79) -/
  | access (a : Access)
  /-- a cycle with no access -/
  | idle
  /-- the reset input: one atomic event between two accesses (70_reset_and_hazards.md R330) -/
  | reset
  deriving DecidableEq, Repr

/-- A full pending-command latch (10_state.md R47): the accepted command word and the DIN value latched at acceptance.
`left` is the model's own: the steps the command still takes, the one under way included (log 3). -/
structure Pend where
  cmd : U32
  din : U64
  left : Nat
  deriving DecidableEq, Repr

/-- The machine's state. `xsW` to `pend` are 10_state.md R30's tuple, with STATUS.BUSY stored as "PEND is full"
(R43, R47; log 7); `cfg`, `port` and `rdata` are the model's own (log 1, 4, 5). -/
structure State where
  /-- XS.W[0..15] (R31) -/
  xsW : Vector U64 16
  /-- XS.P (R32) -/
  xsP : BitVec 4
  /-- SF.W[0..623] (R34) -/
  sfW : Vector U32 624
  /-- SF.IDX (R35) -/
  sfIdx : BitVec 10
  /-- TM.S[0..3] (R36) -/
  tmS : Vector U32 4
  /-- ARMED_XS (R38) -/
  armedXs : Bool
  /-- ARMED_SF (R38) -/
  armedSf : Bool
  /-- ARMED_TM (R38) -/
  armedTm : Bool
  /-- DIN (R39) -/
  din : U64
  /-- DOUT (R44) -/
  dout : U64
  /-- STATUS.ERR (R41) -/
  err : Bool
  /-- STATUS.ERRCODE (R41) -/
  errcode : BitVec 4
  /-- STATUS.CERT_FIXED (R42) -/
  certFixed : Bool
  /-- PEND (R47) -/
  pend : Option Pend
  /-- the OPEN parameters of 00_scope.md R9; no step writes them (log 1) -/
  cfg : Params
  /-- the port events still to arrive, the next one first (log 4) -/
  port : List PortEvent
  /-- the data the last read access returned to the host (log 5) -/
  rdata : U64
  deriving DecidableEq, Repr

/-- How a step can stop with a fault. -/
inductive Fault where
  /-- Raised by a bus access at an address outside BASE..BASE+0x3F, which the block does not have (20_memory.md R70).
  Safe: on the real bus such an access goes elsewhere and the block does not change (log 10). -/
  | outsideWindow (addr : Nat)
  deriving DecidableEq, Repr

/-- How a step can be refused. -/
inductive Refusal where
  /-- Raised by `exec` for an instruction that has no meaning yet; no arm raises it. Safe. -/
  | notModelled (mnemonic : String)
  /-- Raised by an instruction fetch from the window, which 93_implementation_defined.md B14 says to refuse. Safe. -/
  | fetchFromWindow (addr : Nat)
  /-- Raised by every step of a block whose parameters fail a check of 93_implementation_defined.md section 3 (K1, K2,
  K3, K5): "A model refuses it". Safe. -/
  | invalidConfiguration
  deriving DecidableEq, Repr

/-- The machine right after reset (10_state.md R49), with the default parameters (log 1, 2, 3) and nothing on the
port (log 4). -/
def State.reset : State :=
  { xsW := Vector.replicate 16 0
    xsP := 0
    sfW := Vector.replicate 624 0
    sfIdx := 624
    tmS := Vector.replicate 4 0
    armedXs := false
    armedSf := false
    armedTm := false
    din := 0
    dout := 0
    err := false
    errcode := 0
    certFixed := false
    pend := none
    cfg := Params.default
    port := []
    rdata := 0 }

end Sys2Proof.Machine
end

