-- ==== Sys2Proof/Machine/Operands.lean ====
section
/-! DEFINITION. Reading and writing words by index, the bit helpers of 00_scope.md R11 and R12, the operand forms of
30_encoding.md R104 and R105, and the configuration checks of 93_implementation_defined.md section 3. -/

namespace Sys2Proof.Machine

/-! ### Indexed words -/

/-- Word `k` of a bank of `n` words. Every index a command can reach is below `n`; past the end the read is 0, which
no reachable state shows (log 15). -/
def readWord {w n : Nat} (bank : Vector (BitVec w) n) (k : Nat) : BitVec w :=
  if h : k < n then bank[k] else 0

/-- The bank with word `k` replaced; past the end nothing is written (log 15). -/
def writeWord {w n : Nat} (bank : Vector (BitVec w) n) (k : Nat) (v : BitVec w) : Vector (BitVec w) n :=
  bank.setIfInBounds k v

/-- Every word of the bank is 0 (30_encoding.md R110 step 9). -/
def allZero {w n : Nat} (bank : Vector (BitVec w) n) : Bool :=
  bank.toList.all (fun v => v == 0)

/-! ### Bit helpers (00_scope.md R11, R12) -/

/-- `trunc32(v)` = v[31:0] -/
def trunc32 (v : U64) : U32 := v.extractLsb' 0 32

/-- v[63:32] -/
def high32 (v : U64) : U32 := v.extractLsb' 32 32

/-- `zext64(v)` -/
def zext64 {w : Nat} (v : BitVec w) : U64 := v.setWidth 64

/-- `-(b) & mask32` for the bit b: all ones when it is 1, else 0 (R12). -/
def spread32 (b : Bool) : U32 := if b then 0xFFFFFFFF else 0

/-- The number of 1 bits of a word (42_sfmt19937.md R208). -/
def popcount {w : Nat} (v : BitVec w) : Nat :=
  ((List.range w).filter (fun k => v.getLsbD k)).length

/-! ### Operand forms -/

/-- The first IDX that is past the engine's words, for LDW and RDW: LIMIT(ENG) of 30_encoding.md R110 step 6. -/
def indexLimit : Engine → Nat
  | .xs => 16
  | .sfmt => 624
  | .tmt => 7

/-- The largest DIN value XS.LDP takes (30_encoding.md R105, R110 step 7; all 64 bits are compared). -/
def xsPointerMax : U64 := 15

/-- The largest DIN value SFMT.LDP takes (30_encoding.md R105, R110 step 7; all 64 bits are compared). -/
def sfmtCursorMax : U64 := 624

/-! ### Configuration checks K1, K2, K3, K5 (K4 holds by the type of `implId`) -/

/-- K1: the total popcount of SFMT_PARITY1..4 is odd. -/
def parityCheck (p : Params) : Bool :=
  (popcount (readWord p.sfmtParity 0) + popcount (readWord p.sfmtParity 1)
    + popcount (readWord p.sfmtParity 2) + popcount (readWord p.sfmtParity 3)) % 2 == 1

/-- K5: every LAT_* is positive. -/
def latencyCheck (l : Latencies) : Bool :=
  decide (0 < l.reg) && decide (0 < l.xsCert) && decide (0 < l.sfArm) && decide (0 < l.xs) && decide (0 < l.tmt)
    && decide (0 < l.sf) && decide (0 < l.sfRef) && decide (0 < l.erst)

end Sys2Proof.Machine
end

