-- ==== Sys2Proof/Machine/TmtEngine.lean ====
section
/-! DEFINITION. The TinyMT32 engine functions (43_tinymt32.md sections 1 and 3). -/

namespace Sys2Proof.Machine

/-- `TMT_MASK` (00_scope.md R9; 90_conflicts.md C1): the bits of S[0] the recurrence reads. -/
def tmtMask : U32 := 0x7fffffff

/-- `TM_STEP(S)` (R241), with SH0 = 1, SH1 = 10: every right-hand side reads the old state. S'[2] is the explicit
formula (90_conflicts.md C2). -/
def tmStep (mat1 mat2 : U32) (st : Vector U32 4) : Vector U32 4 :=
  let y0 := readWord st 3
  let x0 := (readWord st 0 &&& tmtMask) ^^^ readWord st 1 ^^^ readWord st 2
  let x1 := x0 ^^^ (x0 <<< 1)
  let y1 := (y0 ^^^ (y0 >>> 1)) ^^^ x1
  let m := spread32 (y1.getLsbD 0)
  #v[readWord st 1, readWord st 2 ^^^ (mat1 &&& m), (x1 ^^^ (y1 <<< 10)) ^^^ (mat2 &&& m), y1]

/-- `TM_TEMPER(S)` (R242), with SH8 = 8: all 32 bits of S[0], wrapping addition. -/
def tmTemper (tmat : U32) (st : Vector U32 4) : U32 :=
  let t0 := readWord st 3
  let t1 := readWord st 0 + (readWord st 2 >>> 8)
  let t2 := t0 ^^^ t1
  t2 ^^^ (tmat &&& spread32 (t1.getLsbD 0))

/-- `DEGENERATE(S)` (R245). -/
def tmDegenerate (st : Vector U32 4) : Bool :=
  (readWord st 0 &&& tmtMask) == 0 && readWord st 1 == 0 && readWord st 2 == 0 && readWord st 3 == 0

/-- `TM_CERTIFY(S)` (R246): the certified status, and whether it changed. -/
def tmCertify (rescue st : Vector U32 4) : Vector U32 4 × Bool :=
  if tmDegenerate st then (rescue, true) else (st, false)

end Sys2Proof.Machine
end

