-- ==== Sys2Proof/Machine/Flags.lean ====
section
/-! DEFINITION. The error code numbers (60_exceptions.md R301), the STATUS and ID words (10_state.md R40, R45), the
ARMED bits by engine, and the whole configuration check. -/

namespace Sys2Proof.Machine

/-- The code STATUS.ERRCODE records (60_exceptions.md R301). -/
def errNumber : ErrCode → BitVec 4
  | .illegalOp => 1
  | .illegalEng => 2
  | .rsvdBits => 3
  | .opEngine => 4
  | .idxRange => 5
  | .readOnly => 6
  | .badValue => 7
  | .notArmed => 8
  | .degenerate => 9
  | .busy => 10
  | .bus => 11

/-- STATUS.BUSY: 1 from acceptance to completion, that is, while PEND is full (10_state.md R43, R47; log 7). -/
def busy (s : State) : Bool := s.pend.isSome

/-- The 64-bit STATUS word (10_state.md R40); bits 3:2 and 63:12 read 0. -/
def statusWord (s : State) : U64 :=
  (0 : BitVec 52) ++ BitVec.ofBool s.certFixed ++ BitVec.ofBool s.armedTm ++ BitVec.ofBool s.armedSf
    ++ BitVec.ofBool s.armedXs ++ s.errcode ++ (0 : BitVec 2) ++ BitVec.ofBool s.err ++ BitVec.ofBool (busy s)

/-- The 64-bit ID word (10_state.md R45): engines present in bits 2:0, interface version 1 in bits 15:8, IMPL_ID in
bits 31:16, the rest 0. -/
def idWord (cfg : Params) : U64 :=
  (0 : BitVec 32) ++ cfg.implId ++ (1 : BitVec 8) ++ (0 : BitVec 5) ++ (7 : BitVec 3)

/-- The engine's ARMED bit (10_state.md R38). -/
def armed (e : Engine) (s : State) : Bool :=
  match e with
  | .xs => s.armedXs
  | .sfmt => s.armedSf
  | .tmt => s.armedTm

/-- The parameter set passes K1, K2, K3 and K5 (93_implementation_defined.md section 3); K4 holds by type. -/
def validConfig (p : Params) : Bool :=
  parityCheck p && !tmDegenerate p.tmtRescue && p.base % 0x40 == 0 && latencyCheck p.lat

end Sys2Proof.Machine
end

