-- ==== Sys2Proof/Machine/SfmtEngine.lean ====
section
/-! DEFINITION. The SFMT-19937 engine functions (42_sfmt19937.md sections 1 and 3). -/

namespace Sys2Proof.Machine

/-! ### Lanes (R201) -/

/-- `SF.L[j]`: words 4j to 4j+3, the lowest index least significant (R201, 10_state.md R34). -/
def laneOf (words : Vector U32 624) (j : Nat) : U128 :=
  readWord words (4 * j + 3) ++ readWord words (4 * j + 2) ++ readWord words (4 * j + 1) ++ readWord words (4 * j)

/-- Sub-word m of a lane: bits [32m+31 : 32m] (R201). -/
def subWord (x : U128) (m : Nat) : U32 := x.extractLsb' (32 * m) 32

/-- "Writing a lane writes its four words by the same map" (R201). -/
def writeLane (words : Vector U32 624) (j : Nat) (x : U128) : Vector U32 624 :=
  writeWord (writeWord (writeWord (writeWord words (4 * j) (subWord x 0))
    (4 * j + 1) (subWord x 1)) (4 * j + 2) (subWord x 2)) (4 * j + 3) (subWord x 3)

/-- `lshift128(x, n)`: by n bytes, bits past 128 lost (R202). -/
def lshift128 (x : U128) (n : Nat) : U128 := x <<< (8 * n)

/-- `rshift128(x, n)`: by n bytes, zeros shifted in (R202). -/
def rshift128 (x : U128) (n : Nat) : U128 := x >>> (8 * n)

/-! ### Recurrence (R203 to R205) -/

/-- Sub-word m of the new lane, `r_m` of R203, with SL2 = SR2 = 1 byte, SR1 = 11 and SL1 = 18. -/
def sfRecWord (msk : Vector U32 4) (a b c d : U128) (m : Nat) : U32 :=
  subWord a m ^^^ subWord (lshift128 a 1) m ^^^ ((subWord b m >>> 11) &&& readWord msk m)
    ^^^ subWord (rshift128 c 1) m ^^^ (subWord d m <<< 18)

/-- `SF_REC(A, B, C, D)` (R203); `msk` holds SFMT_MSK1..4. -/
def sfRec (msk : Vector U32 4) (a b c d : U128) : U128 :=
  sfRecWord msk a b c d 3 ++ sfRecWord msk a b c d 2 ++ sfRecWord msk a b c d 1 ++ sfRecWord msk a b c d 0

/-- One assignment of the refill loop (R205): lane i from the lanes of R204 as they stand, with POS1 = 122. -/
def sfRefillLane (msk : Vector U32 4) (words : Vector U32 624) (i : Nat) : Vector U32 624 :=
  writeLane words i
    (sfRec msk (laneOf words i) (laneOf words ((i + 122) % 156)) (laneOf words ((i + 154) % 156))
      (laneOf words ((i + 155) % 156)))

/-- `SF_REFILL(W)` (R205): lanes 0 to 155 in increasing order, in place. Irreducible, so that comparing two states never
unrolls the loop; `sfRefill_eq_foldl` (Laws/Engines.lean) unfolds it. -/
@[irreducible] def sfRefill (msk : Vector U32 4) (words : Vector U32 624) : Vector U32 624 :=
  (List.range 156).foldl (sfRefillLane msk) words

/-! ### Period certification (R208, R209) -/

/-- The combined 32-bit value of R208: each word masked by its parity constant, the four results XORed. -/
def sfParityInner (parity : Vector U32 4) (words : Vector U32 624) : U32 :=
  (readWord words 0 &&& readWord parity 0) ^^^ (readWord words 1 &&& readWord parity 1)
    ^^^ (readWord words 2 &&& readWord parity 2) ^^^ (readWord words 3 &&& readWord parity 3)

/-- `SF_PARITY(W)` (R208): the popcount of the combined value, modulo 2. -/
def sfParity (parity : Vector U32 4) (words : Vector U32 624) : Nat :=
  popcount (sfParityInner parity words) % 2

/-- Bit k of lane 0, or of the parity mask: bit (k mod 32) of word (k div 32) (R209). -/
def bankBit {n : Nat} (bank : Vector U32 n) (k : Nat) : Bool :=
  (readWord bank (k / 32)).getLsbD (k % 32)

/-- Bit k flipped. -/
def flipBankBit {n : Nat} (bank : Vector U32 n) (k : Nat) : Vector U32 n :=
  writeWord bank (k / 32) (readWord bank (k / 32) ^^^ ((1 : U32) <<< (k % 32)))

/-- The bit SF_FIX flips: the first k in 0..127 that is in the parity mask and, in DOC mode, unset in lane 0 (R209). -/
def sfFixBit (mode : CertFix) (parity : Vector U32 4) (words : Vector U32 624) : Option Nat :=
  (List.range 128).find? (fun k => bankBit parity k && (mode == CertFix.ref || !bankBit words k))

/-- `SF_FIX(W)` (R209). Under check K1 a bit is always found when the parity is even; where K1 fails, the model leaves
the words as they are, and no step runs (log 16). -/
def sfFix (mode : CertFix) (parity : Vector U32 4) (words : Vector U32 624) : Vector U32 624 :=
  match sfFixBit mode parity words with
  | some k => flipBankBit words k
  | none => words

end Sys2Proof.Machine
end

