-- ==== Sys2Proof/Machine/XsEngine.lean ====
section
/-! DEFINITION. The xorshift1024* engine functions (41_xorshift1024.md section 1) and the two-queue form of its ring
(10_state.md R33). -/

namespace Sys2Proof.Machine

/-- `XS_MULT` (00_scope.md R9) -/
def xsMult : U64 := 1181783497276652981

/-- The new word of one advance: s0 is the word at the active pointer and s1 the next word (R171; shift amounts
XS_A = 31, XS_B = 11, XS_C = 30). -/
def xsNewWord (s0 s1 : U64) : U64 :=
  let a := s1 ^^^ (s1 <<< 31)
  (s0 ^^^ (s0 >>> 30)) ^^^ (a ^^^ (a >>> 11))

/-- `XS_STEP(W, p)` (R171): the new ring, the new pointer, the new word. The pointer is 4 bits wide, so its
increment is modulo 16. -/
def xsStep (ring : Vector U64 16) (p : BitVec 4) : Vector U64 16 × BitVec 4 × U64 :=
  let q := p + 1
  let nw := xsNewWord (readWord ring p.toNat) (readWord ring q.toNat)
  (writeWord ring q.toNat nw, q, nw)

/-- `XS_OUT(nw)` (R173): the low 64 bits of the unsigned product. -/
def xsOut (nw : U64) : U64 := nw * xsMult

/-! ### The two-queue form, outside the block (R33; 93_implementation_defined.md I1) -/

/-- The correspondence of R33: `XS.W[(p + k) mod 16] = hk` for the active list and
`XS.W[(p - 1 - k) mod 16] = rk` for the reserve list, 16 words in all. -/
def queuesMatchRing (active reserve : List U64) (ring : Vector U64 16) (p : BitVec 4) : Prop :=
  active.length + reserve.length = 16 ∧ active ≠ []
    ∧ (∀ k, k < active.length → readWord ring ((p.toNat + k) % 16) = active.getD k 0)
    ∧ (∀ k, k < reserve.length → readWord ring ((p.toNat + 15 - k) % 16) = reserve.getD k 0)

/-- One advance of the two-queue form: "s0 moves to the consumed queue and the new word takes s1's place at the head
of the active queue" (R171). DEDUCED (log 18): when the active queue holds s0 alone, the roles swap first, and the
reversed reserve follows s0. -/
def queueStep : List U64 → List U64 → List U64 × List U64 × U64
  | s0 :: s1 :: rest, reserve =>
    let nw := xsNewWord s0 s1
    (nw :: rest, s0 :: reserve, nw)
  | [s0], reserve =>
    match reserve.reverse with
    | s1 :: rest =>
      let nw := xsNewWord s0 s1
      (nw :: rest, [s0], nw)
    | [] => ([s0], [], 0)
  | [], reserve => ([], reserve, 0)

end Sys2Proof.Machine
end

