-- ==== Sys2Proof/Machine/Ops.lean ====
section
/-! DEFINITION. The operations every command shares: recording an error and clearing the record (this block's only
"exception" and "return", 60_exceptions.md R302, R307), the pending-command latch, the acceptance checks of
30_encoding.md R110 steps 6 to 9, the latencies of 70_reset_and_hazards.md R343, and running a checked command. -/

namespace Sys2Proof.Machine

/-! ### The error record -/

/-- `RECORD(e)` (60_exceptions.md R302): the first code is kept. A failure has no other effect (R303). -/
def recordError (e : ErrCode) (s : State) : State :=
  if s.err then s else { s with err := true, errcode := errNumber e }

/-- The record is cleared (40_state_access.md R131; 60_exceptions.md R307: "The only "return" is CLRERR"). -/
def clearError (s : State) : State := { s with err := false, errcode := 0 }

/-! ### The pending-command latch -/

/-- The DIN operand of a command: the value latched at acceptance (10_state.md R39, 20_memory.md R78). A command run
with no command pending takes DIN as it stands (log 9). -/
def operandDin (s : State) : U64 :=
  match s.pend with
  | some p => p.din
  | none => s.din

/-- PEND is emptied: at completion, and when a command fails (20_memory.md R78, R80; 60_exceptions.md R303). -/
def emptyPend (s : State) : State := { s with pend := none }

/-- PEND holds command word `c`, the current DIN, and the steps left (20_memory.md R78, 10_state.md R47). -/
def latchPend (c : U32) (left : Nat) (s : State) : State := { s with pend := some ⟨c, s.din, left⟩ }

/-! ### Acceptance checks -/

/-- R110 step 6 for a command with an index. -/
def checkIndex (e : Engine) (idx : BitVec 10) : Option ErrCode :=
  if indexLimit e ≤ idx.toNat then some .idxRange else none

/-- R110 step 6 for TMT.LDW: the range first, then the read-only matrix words 4 to 6. -/
def checkTmtLdwIndex (idx : BitVec 10) : Option ErrCode :=
  if indexLimit .tmt ≤ idx.toNat then some .idxRange
  else if 4 ≤ idx.toNat then some .readOnly
  else none

/-- R110 step 7: the whole 64-bit operand against the largest legal value. -/
def checkValue (largest : U64) (s : State) : Option ErrCode :=
  if largest < operandDin s then some .badValue else none

/-- R110 step 8. -/
def checkArmed (e : Engine) (s : State) : Option ErrCode :=
  if armed e s then none else some .notArmed

/-- ZERO_STATE(ENG) of R110 step 9. -/
def zeroState (e : Engine) (s : State) : Bool :=
  match e with
  | .xs => allZero s.xsW
  | .sfmt => allZero s.sfW
  | .tmt => tmDegenerate s.tmS

/-- R110 step 9. -/
def checkNonzero (e : Engine) (s : State) : Option ErrCode :=
  if zeroState e s then some .degenerate else none

/-- R110 steps 6 to 9 for each command: the error it fails with in this state, if any. Where a command has no check
here, it never fails once it is decoded. -/
def acceptCheck (i : Instr) (s : State) : Option ErrCode :=
  match i with
  | .nop => none
  | .clrerr => none
  | .xsLdw idx => checkIndex .xs idx
  | .sfmtLdw idx => checkIndex .sfmt idx
  | .tmtLdw idx => checkTmtLdwIndex idx
  | .xsRdw idx => checkIndex .xs idx
  | .sfmtRdw idx => checkIndex .sfmt idx
  | .tmtRdw idx => checkIndex .tmt idx
  | .xsLdp => checkValue xsPointerMax s
  | .sfmtLdp => checkValue sfmtCursorMax s
  | .xsRdp => none
  | .sfmtRdp => none
  | .xsErst => none
  | .sfmtErst => none
  | .tmtErst => none
  | .xsNext => checkArmed .xs s
  | .xsAdv => checkArmed .xs s
  | .xsCert => checkNonzero .xs s
  | .xsArm => checkNonzero .xs s
  | .sfmtNext => checkArmed .sfmt s
  | .sfmtRefill => checkArmed .sfmt s
  | .sfmtCert => none
  | .sfmtArm => checkNonzero .sfmt s
  | .tmtNext => checkArmed .tmt s
  | .tmtAdv => checkArmed .tmt s
  | .tmtCert => none
  | .tmtArm => checkNonzero .tmt s

/-! ### Latency -/

/-- The latency of a command accepted in this state (70_reset_and_hazards.md R343). -/
def latencyOf (i : Instr) (s : State) : Nat :=
  match i with
  | .nop | .clrerr | .xsLdw _ | .sfmtLdw _ | .tmtLdw _ | .xsRdw _ | .sfmtRdw _ | .tmtRdw _ => s.cfg.lat.reg
  | .xsLdp | .sfmtLdp | .xsRdp | .sfmtRdp | .xsArm | .tmtArm => s.cfg.lat.reg
  | .xsCert => s.cfg.lat.xsCert
  | .sfmtArm => s.cfg.lat.sfArm
  | .xsNext | .xsAdv => s.cfg.lat.xs
  | .tmtNext | .tmtAdv | .tmtCert => s.cfg.lat.tmt
  | .sfmtNext => if s.sfIdx = 624 then s.cfg.lat.sfRef else s.cfg.lat.sf
  | .sfmtCert => s.cfg.lat.sf
  | .sfmtRefill => s.cfg.lat.sfRef
  | .xsErst | .sfmtErst | .tmtErst => s.cfg.lat.erst

/-! ### Running a command -/

/-- A decoded command: where its check fails, the error is recorded and nothing else happens (60_exceptions.md R303);
else its effect takes place in one indivisible step and BUSY returns to 0 (20_memory.md R80). Either way PEND is
empty afterwards. -/
def runCommand (check : Option ErrCode) (effect : State → State) (s : State) :
    Host.Outcome State Fault Refusal :=
  match check with
  | some e => .next (recordError e (emptyPend s))
  | none => .next (emptyPend (effect s))

end Sys2Proof.Machine
end

