-- ==== Sys2Proof/Machine/Bus.lean ====
section
/-! DEFINITION. The register window (20_memory.md sections 1 and 2) and the presenting of a command (section 3). -/

namespace Sys2Proof.Machine

/-- The address lies in the register window BASE..BASE+0x3F (20_memory.md R70). -/
def inWindow (cfg : Params) (addr : Nat) : Bool :=
  decide (cfg.base ≤ addr) && decide (addr < cfg.base + 0x40)

/-- A read of the window: the data of the 13 legal reads of 20_memory.md R73, or none where the access is illegal.
A 32-bit result stands in the low half (log 5). Registers are little-endian (R74). -/
def readWindow (offset bytes : Nat) (s : State) : Option U64 :=
  match offset, bytes with
  | 0x00, 4 => some 0
  | 0x08, 8 => some (statusWord s)
  | 0x08, 4 => some (zext64 (trunc32 (statusWord s)))
  | 0x0C, 4 => some (zext64 (high32 (statusWord s)))
  | 0x10, 8 => some s.din
  | 0x10, 4 => some (zext64 (trunc32 s.din))
  | 0x14, 4 => some (zext64 (high32 s.din))
  | 0x18, 8 => some s.dout
  | 0x18, 4 => some (zext64 (trunc32 s.dout))
  | 0x1C, 4 => some (zext64 (high32 s.dout))
  | 0x20, 8 => some (idWord s.cfg)
  | 0x20, 4 => some (zext64 (trunc32 (idWord s.cfg)))
  | 0x24, 4 => some (zext64 (high32 (idWord s.cfg)))
  | _, _ => none

/-- A command is presented (20_memory.md R78). While BUSY it is discarded with E_BUSY. Else it is latched with DIN into
PEND and checked by 30_encoding.md R110: a failing check completes it at once with the error, and a command that passes
stays in PEND for its latency. -/
def presentCommand (c : U32) (s : State) : State :=
  if busy s then recordError .busy s
  else
    match decode c with
    | .error e => recordError e s
    | .ok i =>
      match acceptCheck i (latchPend c 0 s) with
      | some e => recordError e s
      | none => latchPend c (latencyOf i s) s

/-- A write to the window: the state after the 4 legal writes of 20_memory.md R73, or none where the access is illegal. A
half write of DIN keeps the other half (R75). Only a legal CMD write starts a command (R77). -/
def writeWindow (offset bytes : Nat) (v : U64) (s : State) : Option State :=
  match offset, bytes with
  | 0x00, 4 => some (presentCommand (trunc32 v) s)
  | 0x10, 8 => some { s with din := v }
  | 0x10, 4 => some { s with din := high32 s.din ++ trunc32 v }
  | 0x14, 4 => some { s with din := trunc32 v ++ trunc32 s.din }
  | _, _ => none

/-- A read access: a legal one returns its data and changes nothing else (R77); an illegal one returns 0 and records
E_BUS (R76). -/
def readAccess (offset bytes : Nat) (s : State) : State :=
  match readWindow offset bytes s with
  | some v => { s with rdata := v }
  | none => recordError .bus { s with rdata := 0 }

/-- A write access: an illegal one changes no register and records E_BUS (R76). -/
def writeAccess (offset bytes : Nat) (v : U64) (s : State) : State :=
  match writeWindow offset bytes v s with
  | some t => t
  | none => recordError .bus s

/-- One host access. Outside the window there is no block to answer (R70; log 10), and a fetch from the window is
refused (93_implementation_defined.md B14; log 11). -/
def hostAccess (a : Access) (s : State) : Host.Outcome State Fault Refusal :=
  match a with
  | .read addr bytes =>
    if inWindow s.cfg addr then .next (readAccess (addr - s.cfg.base) bytes s) else .fault (.outsideWindow addr)
  | .write addr bytes v =>
    if inWindow s.cfg addr then .next (writeAccess (addr - s.cfg.base) bytes v s) else .fault (.outsideWindow addr)
  | .fetch addr =>
    if inWindow s.cfg addr then .refused (.fetchFromWindow addr) else .fault (.outsideWindow addr)

/-- Reset (70_reset_and_hazards.md R330): every element of state at its value of 10_state.md R49, a pending command
abandoned. The parameters, the events still to come and what the host last read are not the block's state. -/
def resetBlock (s : State) : State :=
  { State.reset with cfg := s.cfg, port := s.port, rdata := s.rdata }

end Sys2Proof.Machine
end

