-- ==== Sys2Proof/Machine/Control.lean ====
section
/-! DEFINITION. NOP and CLRERR (40_state_access.md section 1). -/

namespace Sys2Proof.Machine

/-- NOP (R130): nothing. -/
def execNop (s : State) : Host.Outcome State Fault Refusal :=
  runCommand (acceptCheck .nop s) (fun t => t) s

/-- CLRERR (R131): `STATUS.ERR <- 0; STATUS.ERRCODE <- 0`. -/
def execClrerr (s : State) : Host.Outcome State Fault Refusal :=
  runCommand (acceptCheck .clrerr s) clearError s

end Sys2Proof.Machine
end

