-- ==== Sys2Proof/Machine/Sfmt.lean ====
section
/-! DEFINITION. The SFMT-19937 commands (42_sfmt19937.md sections 2 and 3). -/

namespace Sys2Proof.Machine

/-- `SF_REFILL(SF.W); SF.IDX <- 0` (R206, R207). -/
def refillBuffer (s : State) : State :=
  { s with sfW := sfRefill s.cfg.sfmtMsk s.sfW, sfIdx := 0 }

/-- `DOUT <- zext64(SF.W[SF.IDX]); SF.IDX <- SF.IDX + 1` (R206). -/
def outputWord (s : State) : State :=
  { s with dout := zext64 (readWord s.sfW s.sfIdx.toNat), sfIdx := s.sfIdx + 1 }

/-- SFMT.NEXT (R206): refill first when the buffer is exhausted, then output the next word. -/
def execSfmtNext (s : State) : Host.Outcome State Fault Refusal :=
  runCommand (acceptCheck .sfmtNext s)
    (fun t => outputWord (if t.sfIdx = 624 then refillBuffer t else t)) s

/-- SFMT.REFILL (R207): refill whatever the cursor holds; DOUT is unchanged. -/
def execSfmtRefill (s : State) : Host.Outcome State Fault Refusal :=
  runCommand (acceptCheck .sfmtRefill s) refillBuffer s

/-- SFMT.CERT (R210): accept odd parity as it is, else flip one bit; arm, and report in CERT_FIXED. -/
def execSfmtCert (s : State) : Host.Outcome State Fault Refusal :=
  runCommand (acceptCheck .sfmtCert s)
    (fun t =>
      if sfParity t.cfg.sfmtParity t.sfW = 1 then { t with armedSf := true, certFixed := false }
      else
        { t with
          sfW := sfFix t.cfg.sfmtCertFix t.cfg.sfmtParity t.sfW
          armedSf := true
          certFixed := true }) s

/-- SFMT.ARM (R211): `ARMED_SF <- 1`, unless all 624 words are zero. -/
def execSfmtArm (s : State) : Host.Outcome State Fault Refusal :=
  runCommand (acceptCheck .sfmtArm s) (fun t => { t with armedSf := true }) s

end Sys2Proof.Machine
end

