-- ==== Sys2Proof/Machine/StateAccess.lean ====
section
/-! DEFINITION. The state-access commands (40_state_access.md sections 2 to 5): LDW, RDW, LDP, RDP and ERST. -/

namespace Sys2Proof.Machine

/-! ### Load word -/

/-- XS.LDW i (R132): `XS.W[i] <- din; ARMED_XS <- 0`. -/
def execXsLdw (idx : BitVec 10) (s : State) : Host.Outcome State Fault Refusal :=
  runCommand (acceptCheck (.xsLdw idx) s)
    (fun t => { t with xsW := writeWord t.xsW idx.toNat (operandDin t), armedXs := false }) s

/-- SFMT.LDW i (R133): `SF.W[i] <- trunc32(din); ARMED_SF <- 0`. -/
def execSfmtLdw (idx : BitVec 10) (s : State) : Host.Outcome State Fault Refusal :=
  runCommand (acceptCheck (.sfmtLdw idx) s)
    (fun t => { t with sfW := writeWord t.sfW idx.toNat (trunc32 (operandDin t)), armedSf := false }) s

/-- TMT.LDW i (R134): `TM.S[i] <- trunc32(din); ARMED_TM <- 0`. -/
def execTmtLdw (idx : BitVec 10) (s : State) : Host.Outcome State Fault Refusal :=
  runCommand (acceptCheck (.tmtLdw idx) s)
    (fun t => { t with tmS := writeWord t.tmS idx.toNat (trunc32 (operandDin t)), armedTm := false }) s

/-! ### Read word -/

/-- XS.RDW i (R135): `DOUT <- XS.W[i]`. -/
def execXsRdw (idx : BitVec 10) (s : State) : Host.Outcome State Fault Refusal :=
  runCommand (acceptCheck (.xsRdw idx) s) (fun t => { t with dout := readWord t.xsW idx.toNat }) s

/-- SFMT.RDW i (R136): `DOUT <- zext64(SF.W[i])`. -/
def execSfmtRdw (idx : BitVec 10) (s : State) : Host.Outcome State Fault Refusal :=
  runCommand (acceptCheck (.sfmtRdw idx) s) (fun t => { t with dout := zext64 (readWord t.sfW idx.toNat) }) s

/-- Word i of TinyMT32 as TMT.RDW numbers them (R137): TM.S[0..3], then TM.MAT1, TM.MAT2, TM.TMAT at 4, 5, 6. -/
def tmtWord (k : Nat) (s : State) : U32 :=
  match k with
  | 4 => s.cfg.tmtMat1
  | 5 => s.cfg.tmtMat2
  | 6 => s.cfg.tmtTmat
  | _ => readWord s.tmS k

/-- TMT.RDW i (R137). -/
def execTmtRdw (idx : BitVec 10) (s : State) : Host.Outcome State Fault Refusal :=
  runCommand (acceptCheck (.tmtRdw idx) s) (fun t => { t with dout := zext64 (tmtWord idx.toNat t) }) s

/-! ### Pointer and cursor -/

/-- XS.LDP (R138): `XS.P <- din[3:0]`. -/
def execXsLdp (s : State) : Host.Outcome State Fault Refusal :=
  runCommand (acceptCheck .xsLdp s) (fun t => { t with xsP := (operandDin t).extractLsb' 0 4 }) s

/-- SFMT.LDP (R139): `SF.IDX <- din[9:0]`. -/
def execSfmtLdp (s : State) : Host.Outcome State Fault Refusal :=
  runCommand (acceptCheck .sfmtLdp s) (fun t => { t with sfIdx := (operandDin t).extractLsb' 0 10 }) s

/-- XS.RDP (R140): `DOUT <- zext64(XS.P)`. -/
def execXsRdp (s : State) : Host.Outcome State Fault Refusal :=
  runCommand (acceptCheck .xsRdp s) (fun t => { t with dout := zext64 t.xsP }) s

/-- SFMT.RDP (R141): `DOUT <- zext64(SF.IDX)`. -/
def execSfmtRdp (s : State) : Host.Outcome State Fault Refusal :=
  runCommand (acceptCheck .sfmtRdp s) (fun t => { t with dout := zext64 t.sfIdx }) s

/-! ### Engine reset -/

/-- XS.ERST (R142): the ring, the pointer and ARMED_XS at their reset values. -/
def execXsErst (s : State) : Host.Outcome State Fault Refusal :=
  runCommand (acceptCheck .xsErst s)
    (fun t => { t with xsW := Vector.replicate 16 0, xsP := 0, armedXs := false }) s

/-- SFMT.ERST (R143): the words, the cursor (624) and ARMED_SF at their reset values. -/
def execSfmtErst (s : State) : Host.Outcome State Fault Refusal :=
  runCommand (acceptCheck .sfmtErst s)
    (fun t => { t with sfW := Vector.replicate 624 0, sfIdx := 624, armedSf := false }) s

/-- TMT.ERST (R144): the status words and ARMED_TM at their reset values. -/
def execTmtErst (s : State) : Host.Outcome State Fault Refusal :=
  runCommand (acceptCheck .tmtErst s) (fun t => { t with tmS := Vector.replicate 4 0, armedTm := false }) s

end Sys2Proof.Machine
end

