-- ==== Sys2Proof/Machine/TinyMt.lean ====
section
/-! DEFINITION. The TinyMT32 commands (43_tinymt32.md sections 2 and 3). -/

namespace Sys2Proof.Machine

/-- `TM.S <- TM_STEP(TM.S)` (R243, R244), with the block's fixed TM.MAT1 and TM.MAT2. -/
def advanceTiny (s : State) : State :=
  { s with tmS := tmStep s.cfg.tmtMat1 s.cfg.tmtMat2 s.tmS }

/-- TMT.NEXT (R243): advance once, then output the tempered NEW state. -/
def execTmtNext (s : State) : Host.Outcome State Fault Refusal :=
  runCommand (acceptCheck .tmtNext s)
    (fun t => { advanceTiny t with dout := zext64 (tmTemper t.cfg.tmtTmat (advanceTiny t).tmS) }) s

/-- TMT.ADV (R244): advance once; DOUT is unchanged. -/
def execTmtAdv (s : State) : Host.Outcome State Fault Refusal :=
  runCommand (acceptCheck .tmtAdv s) advanceTiny s

/-- TMT.CERT (R247): replace a degenerate status by the rescue constant, arm, and report in CERT_FIXED. -/
def execTmtCert (s : State) : Host.Outcome State Fault Refusal :=
  runCommand (acceptCheck .tmtCert s)
    (fun t =>
      { t with
        tmS := (tmCertify t.cfg.tmtRescue t.tmS).1
        certFixed := (tmCertify t.cfg.tmtRescue t.tmS).2
        armedTm := true }) s

/-- TMT.ARM (R248): `ARMED_TM <- 1`, unless the status is degenerate. -/
def execTmtArm (s : State) : Host.Outcome State Fault Refusal :=
  runCommand (acceptCheck .tmtArm s) (fun t => { t with armedTm := true }) s

end Sys2Proof.Machine
end

