-- ==== Sys2Proof/Machine/Xorshift.lean ====
section
/-! DEFINITION. The xorshift1024* commands (41_xorshift1024.md section 2). -/

namespace Sys2Proof.Machine

/-- The ring and the pointer after one advance (R174, R175). -/
def advanceRing (s : State) : State :=
  { s with xsW := (xsStep s.xsW s.xsP).1, xsP := (xsStep s.xsW s.xsP).2.1 }

/-- XS.NEXT (R174): advance, and output the star-multiplied new word. -/
def execXsNext (s : State) : Host.Outcome State Fault Refusal :=
  runCommand (acceptCheck .xsNext s)
    (fun t => { advanceRing t with dout := xsOut (xsStep t.xsW t.xsP).2.2 }) s

/-- XS.ADV (R175): advance; DOUT is unchanged. -/
def execXsAdv (s : State) : Host.Outcome State Fault Refusal :=
  runCommand (acceptCheck .xsAdv s) advanceRing s

/-- XS.CERT (R176): `ARMED_XS <- 1; STATUS.CERT_FIXED <- 0`, unless the ring is all zero. -/
def execXsCert (s : State) : Host.Outcome State Fault Refusal :=
  runCommand (acceptCheck .xsCert s) (fun t => { t with armedXs := true, certFixed := false }) s

/-- XS.ARM (R177): `ARMED_XS <- 1`, unless the ring is all zero. -/
def execXsArm (s : State) : Host.Outcome State Fault Refusal :=
  runCommand (acceptCheck .xsArm s) (fun t => { t with armedXs := true }) s

end Sys2Proof.Machine
end

