-- ==== Sys2Proof/Machine/Dispatch.lean ====
section
/-! DEFINITION. One arm per command of 30_encoding.md R111. -/

namespace Sys2Proof.Machine

/-- The meaning of each command. -/
def exec (i : Instr) (s : State) : Host.Outcome State Fault Refusal :=
  match i with
  | .nop => Sys2Proof.Machine.execNop s
  | .clrerr => Sys2Proof.Machine.execClrerr s
  | .xsLdw idx => Sys2Proof.Machine.execXsLdw idx s
  | .sfmtLdw idx => Sys2Proof.Machine.execSfmtLdw idx s
  | .tmtLdw idx => Sys2Proof.Machine.execTmtLdw idx s
  | .xsRdw idx => Sys2Proof.Machine.execXsRdw idx s
  | .sfmtRdw idx => Sys2Proof.Machine.execSfmtRdw idx s
  | .tmtRdw idx => Sys2Proof.Machine.execTmtRdw idx s
  | .xsLdp => Sys2Proof.Machine.execXsLdp s
  | .sfmtLdp => Sys2Proof.Machine.execSfmtLdp s
  | .xsRdp => Sys2Proof.Machine.execXsRdp s
  | .sfmtRdp => Sys2Proof.Machine.execSfmtRdp s
  | .xsErst => Sys2Proof.Machine.execXsErst s
  | .sfmtErst => Sys2Proof.Machine.execSfmtErst s
  | .tmtErst => Sys2Proof.Machine.execTmtErst s
  | .xsNext => Sys2Proof.Machine.execXsNext s
  | .xsAdv => Sys2Proof.Machine.execXsAdv s
  | .xsCert => Sys2Proof.Machine.execXsCert s
  | .xsArm => Sys2Proof.Machine.execXsArm s
  | .sfmtNext => Sys2Proof.Machine.execSfmtNext s
  | .sfmtRefill => Sys2Proof.Machine.execSfmtRefill s
  | .sfmtCert => Sys2Proof.Machine.execSfmtCert s
  | .sfmtArm => Sys2Proof.Machine.execSfmtArm s
  | .tmtNext => Sys2Proof.Machine.execTmtNext s
  | .tmtAdv => Sys2Proof.Machine.execTmtAdv s
  | .tmtCert => Sys2Proof.Machine.execTmtCert s
  | .tmtArm => Sys2Proof.Machine.execTmtArm s

end Sys2Proof.Machine
end

