-- ==== Sys2Proof/Machine/Pending.lean ====
section
/-! DEFINITION. Completion of the pending command, and one event of the port. -/

namespace Sys2Proof.Machine

/-- The pending command completes: its effects appear in one indivisible step (20_memory.md R80). PEND holds only
words that decode, so the second case is reached from no accepted command (log 14). -/
def completePending (c : U32) (s : State) : Host.Outcome State Fault Refusal :=
  match decode c with
  | .ok i => exec i s
  | .error e => .next (recordError e (emptyPend s))

/-- The end of a step: one cycle of the pending command's latency runs out, and with the last one it completes
(70_reset_and_hazards.md R342, R343; log 3, 6). With nothing pending the block is idle (60_exceptions.md R313). -/
def endOfStep (s : State) : Host.Outcome State Fault Refusal :=
  match s.pend with
  | none => .next s
  | some p =>
    if p.left ≤ 1 then completePending p.cmd s
    else .next { s with pend := some { p with left := p.left - 1 } }

/-- An access, then the end of the step (log 6). -/
def accessThenEnd (a : Access) (s : State) : Host.Outcome State Fault Refusal :=
  match hostAccess a s with
  | .next t => endOfStep t
  | .fault f => .fault f
  | .refused r => .refused r

/-- One event of the port. Reset abandons the pending command, so nothing completes in its step. -/
def portEvent (ev : PortEvent) (s : State) : Host.Outcome State Fault Refusal :=
  match ev with
  | .access a => accessThenEnd a s
  | .idle => endOfStep s
  | .reset => .next (resetBlock s)

/-- One step of the block: the next event of the port, or a cycle with no access where none is left; refused where the
parameters fail a configuration check (93_implementation_defined.md section 3; log 12). -/
def blockStep (s : State) : Host.Outcome State Fault Refusal :=
  if validConfig s.cfg then
    match s.port with
    | [] => endOfStep s
    | ev :: rest => portEvent ev { s with port := rest }
  else .refused .invalidConfiguration

end Sys2Proof.Machine
end

