-- ==== Sys2Proof/Machine/Step.lean ====
section
/-! DEFINITION. The step, and the placing of one command where the next step takes it. -/

namespace Sys2Proof.Machine

/-- One step (Machine/Pending.lean). -/
def step (s : State) : Host.Outcome State Fault Refusal := blockStep s

/-- A 32-bit write of the word to CMD is the next event of the port, the block is idle, and every latency is one step,
which 70_reset_and_hazards.md R343 allows: so the very next step accepts the command and completes it (log 4). -/
def State.withFetchWord (s : State) (nbits w : Nat) : State :=
  { s with
    port := .access (.write s.cfg.base 4 (BitVec.ofNat 64 (w % 2 ^ nbits))) :: s.port
    pend := none
    cfg := { s.cfg with lat := Latencies.oneStep } }

end Sys2Proof.Machine
end

