-- ==== Sys2Proof/Machine/HostProcedures.lean ====
section
/-! DEFINITION. The host-side arithmetic of 48_host_procedures.md, outside the block (00_scope.md R6; log 20): seeding,
conversions, the software errors, and the engines the block does not hold. The host's OPEN parameters are the argument
`HostParams`; where the spec gives a default from general knowledge, a function of that name is the default (PRESUMED). No
step of the block uses this file. -/

namespace Sys2Proof.Machine

/-! ### Engines outside the block -/

/-- `XS64_NEXT(r)` (R272): the output and the new state. -/
def xs64Next (r : U64) : U64 × U64 :=
  let r1 := r ^^^ (r >>> 12)
  let r2 := r1 ^^^ (r1 <<< 25)
  let r3 := r2 ^^^ (r2 >>> 27)
  (r3 * 2685821657736338717, r3)

/-- `XS128P_NEXT(s0, s1)` (R286): the output and the new state. -/
def xs128pNext (s0 s1 : U64) : U64 × U64 × U64 :=
  let t := s0 ^^^ (s0 <<< 23)
  let s1new := t ^^^ s1 ^^^ (t >>> 17) ^^^ (s1 >>> 26)
  (s1 + s1new, s1, s1new)

/-- AS183's state (R285). -/
structure As183 where
  a1 : Nat
  a2 : Nat
  a3 : Nat
  deriving DecidableEq, Repr

/-- `initialState()` of AS183 (R285). -/
def as183Initial : As183 := ⟨3172, 9814, 20125⟩

/-- `seed(a1, a2, a3)` of AS183: `(|ai| mod (primei - 1)) + 1` (R285). -/
def as183Seed (a1 a2 a3 : Int) : As183 :=
  ⟨a1.natAbs % 30268 + 1, a2.natAbs % 30306 + 1, a3.natAbs % 30322 + 1⟩

/-- `advance` of AS183 (R285; 90_conflicts.md C5: the formula, not the document's worked numbers). -/
def as183Advance (s : As183) : As183 :=
  ⟨s.a1 * 171 % 30269, s.a2 * 172 % 30307, s.a3 * 170 % 30323⟩

/-- The value of an advanced AS183 state, "sum b1/p1 + b2/p2 + b3/p3, subtract its integer part", as an exact rational
(R285). -/
def as183Uniform (s : As183) : Rat :=
  let r : Rat := (s.a1 : Rat) / 30269 + (s.a2 : Rat) / 30307 + (s.a3 : Rat) / 30323
  r - r.floor

/-! ### Seeding -/

/-- `HOST_INT_REDUCE`, default: the two's-complement low bits at the needed width (R278). -/
def hostIntReduce (w : Nat) (a : Int) : BitVec w := BitVec.ofInt w a

/-- The packed 64-bit value of the default `XS_SEED_PROC`, from the three reduced integers (R271). -/
def xsSeedWord (r1 r2 r3 : BitVec 21) : U64 :=
  let b1 : BitVec 21 := (r1 + 1) * BitVec.ofNat 21 2097131
  let b2 : BitVec 21 := (r2 + 1) * BitVec.ofNat 21 2097133
  let b3 : BitVec 21 := (r3 + 1) * BitVec.ofNat 21 2097143
  (b1.setWidth 64 <<< 43) ||| (b2.setWidth 64 <<< 22) ||| (b3.setWidth 64 <<< 1) ||| 1

/-- `n` outputs of xorshift64* from `r`, each put in front of the ones before it (R271). -/
def xsSeedOutputs : Nat → U64 → List U64 → List U64
  | 0, _, acc => acc
  | n + 1, r, acc => xsSeedOutputs n (xs64Next r).2 ((xs64Next r).1 :: acc)

/-- `XS1024_SEED`, from the three reduced integers: 16 words, the head, which goes to slot 0, first (R271). -/
def xs1024FromWords (r1 r2 r3 : BitVec 21) : List U64 := xsSeedOutputs 16 (xsSeedWord r1 r2 r3) []

/-- The default xorshift1024* seed of three integers (R271, R278). -/
def xs1024Seed (a1 a2 a3 : Int) : List U64 :=
  xs1024FromWords (hostIntReduce 21 a1) (hostIntReduce 21 a2) (hostIntReduce 21 a3)

/-- Words `i` on of the default `SFMT_INT_SEED_PROC`, given the word before them (R273). -/
def sfmtIntegerWords : Nat → Nat → U32 → List U32
  | 0, _, _ => []
  | n + 1, i, prev =>
    let w := 1812433253 * (prev ^^^ (prev >>> 30)) + BitVec.ofNat 32 i
    w :: sfmtIntegerWords n (i + 1) w

/-- `SFMT_FROM_INTEGER`, from the reduced seed: 624 words (R273). -/
def sfmtFromWord (w0 : U32) : List U32 := w0 :: sfmtIntegerWords 623 1 w0

/-- `SFMT_FROM_INTEGER(seed)` (R273, R278). -/
def sfmtFromInteger (seed : Int) : List U32 := sfmtFromWord (hostIntReduce 32 seed)

/-- `func1` (R275) -/
def seedFunc1 (x : U32) : U32 := (x ^^^ (x >>> 27)) * 1664525
/-- `func2` (R275) -/
def seedFunc2 (x : U32) : U32 := (x ^^^ (x >>> 27)) * 1566083941

/-- One round of BY_ARRAY's first pass (R275): the words and the position. -/
def byArrayFirst {n : Nat} (key : List U32) (lag mid : Nat) (acc : Vector U32 n × Nat) (j : Nat) : Vector U32 n × Nat :=
  let i := acc.2
  let r := seedFunc1 (readWord acc.1 i ^^^ readWord acc.1 ((i + mid) % n) ^^^ readWord acc.1 ((i + n - 1) % n))
  let st1 := writeWord acc.1 ((i + mid) % n) (readWord acc.1 ((i + mid) % n) + r)
  let r1 := r + (key.getD j 0 + BitVec.ofNat 32 i)
  let st2 := writeWord st1 ((i + mid + lag) % n) (readWord st1 ((i + mid + lag) % n) + r1)
  (writeWord st2 i r1, (i + 1) % n)

/-- One round of BY_ARRAY's second pass (R275). -/
def byArraySecond {n : Nat} (lag mid : Nat) (acc : Vector U32 n × Nat) : Vector U32 n × Nat :=
  let i := acc.2
  let r := seedFunc2 (readWord acc.1 i + readWord acc.1 ((i + mid) % n) + readWord acc.1 ((i + n - 1) % n))
  let st1 := writeWord acc.1 ((i + mid) % n) (readWord acc.1 ((i + mid) % n) ^^^ r)
  let r1 := r - BitVec.ofNat 32 i
  let st2 := writeWord st1 ((i + mid + lag) % n) (readWord st1 ((i + mid + lag) % n) ^^^ r1)
  (writeWord st2 i r1, (i + 1) % n)

/-- `BY_ARRAY(st, key, size, lag, mid, min_count)` (R275). -/
def byArray {n : Nat} (st : Vector U32 n) (key : List U32) (lag mid minCount : Nat) : Vector U32 n :=
  let count := max (key.length + 1) minCount
  let r := seedFunc1 (readWord st 0 ^^^ readWord st (mid % n) ^^^ readWord st (n - 1))
  let st1 := writeWord st (mid % n) (readWord st (mid % n) + r)
  let r1 := r + BitVec.ofNat 32 key.length
  let st2 := writeWord st1 ((mid + lag) % n) (readWord st1 ((mid + lag) % n) + r1)
  let st3 := writeWord st2 0 r1
  let first := (List.range (count - 1)).foldl (byArrayFirst key lag mid) (st3, 1)
  ((List.range n).foldl (fun acc _ => byArraySecond lag mid acc) first).1

/-- `SFMT_FROM_WORDLIST(key)` (R274). -/
def sfmtFromWordList (key : List U32) : Vector U32 624 :=
  byArray (Vector.replicate 624 0x8b8b8b8b) key 11 306 624

/-- A list of seed integers as a key of 32-bit words (R278, for R274 and R277). -/
def wordKey (key : List Int) : List U32 := key.map (hostIntReduce 32)

/-- `fromWordList` of seed integers of any range and sign (R274, R278). -/
def sfmtFromIntegerList (key : List Int) : Vector U32 624 := sfmtFromWordList (wordKey key)

/-- `TMT_MIX(key)` (R277), from the block's matrix words. -/
def tmtMix (p : Params) (key : List U32) : Vector U32 4 :=
  byArray #v[0, p.tmtMat1, p.tmtMat2, p.tmtTmat] key 1 1 8

/-- The words of TinyMT32 `seed(a1, a2, a3)`, before certification and warm-up in the block (R277, R278). -/
def tmtSeed (p : Params) (a1 a2 a3 : Int) : Vector U32 4 := tmtMix p (wordKey [a1, a2, a3])

/-- One round of TinyMT32 `init` (95_test_vectors.md section 4). -/
def tmtInitRound (st : Vector U32 4) (i : Nat) : Vector U32 4 :=
  let prev := readWord st ((i + 3) % 4)
  writeWord st (i % 4) (readWord st (i % 4) ^^^ (BitVec.ofNat 32 i + 1812433253 * (prev ^^^ (prev >>> 30))))

/-- TinyMT32 `init(seed)` before certification and warm-up, rounds 1 to 7: with seed 1 a candidate `initialState()`
(R284; 95_test_vectors.md section 4). PRESUMED (log 20). -/
def tmtInit (p : Params) (seed : U32) : Vector U32 4 :=
  (List.range' 1 7).foldl tmtInitRound #v[seed, p.tmtMat1, p.tmtMat2, p.tmtTmat]

/-! ### The software errors and the registry (R281, R287) -/

/-- The document's software errors (R281). -/
inductive SoftError where
  | unknownAlgorithm
  | invalidBound
  deriving DecidableEq, Repr

/-- The bound of an integer-uniform operation: n < 1 is refused "before any arithmetic runs" (R281). -/
def checkBound (bound : Int) : Except SoftError Nat :=
  if bound < 1 then .error .invalidBound else .ok bound.toNat

/-- The six algorithms of the registry (R287). -/
inductive Algorithm where
  | as183
  | xorshift64star
  | xorshift128plus
  | xorshift1024star
  | sfmt19937
  | tinymt32
  deriving DecidableEq, Repr

/-- `resolve(id)` (R287). -/
def resolveAlgorithm (id : String) : Except SoftError Algorithm :=
  if id == "as183" then .ok .as183
  else if id == "xorshift64star" then .ok .xorshift64star
  else if id == "xorshift128plus" then .ok .xorshift128plus
  else if id == "xorshift1024star" then .ok .xorshift1024star
  else if id == "sfmt19937" then .ok .sfmt19937
  else if id == "tinymt32" then .ok .tinymt32
  else .error .unknownAlgorithm

/-- The engine of the block an algorithm maps to; none for host software (R287). -/
def blockEngine : Algorithm → Option Engine
  | .xorshift1024star => some .xs
  | .sfmt19937 => some .sfmt
  | .tinymt32 => some .tmt
  | .as183 => none
  | .xorshift64star => none
  | .xorshift128plus => none

/-- The default algorithm of `initialState()` and `seed(v1, v2, v3)` (R287). -/
def defaultAlgorithm : Algorithm := .as183

/-! ### Conversions of raw outputs (R272, R279, R280, R285)

Values are exact rationals here; the host's float format is `HostParams.hostFloat`. -/

/-- "output / 2^64" for xorshift1024* (R279) and xorshift64* (R272). -/
def uniformFloatXs (out : U64) : Rat := (out.toNat : Rat) / 2 ^ 64

/-- "(word + 0.5) / 2^32" for SFMT-19937 and TinyMT32 (R279). -/
def uniformFloat32 (word : U32) : Rat := ((word.toNat : Rat) + 1 / 2) / 2 ^ 32

/-- `uniformFloat` of an engine from the value read from DOUT: all 64 bits for xorshift1024*, DOUT[31:0] for SFMT-19937
and TinyMT32 (R279). -/
def uniformFloatOfDout (e : Engine) (dout : U64) : Rat :=
  match e with
  | .xs => uniformFloatXs dout
  | .sfmt => uniformFloat32 (trunc32 dout)
  | .tmt => uniformFloat32 (trunc32 dout)

/-- `uniformInt(n)` of an engine from the value read from DOUT, for a bound n that has passed `checkBound` (R280). -/
def uniformIntOfDout (e : Engine) (n : Nat) (dout : U64) : Nat :=
  match e with
  | .xs => dout.toNat % n + 1
  | .sfmt => (trunc32 dout).toNat * n / 2 ^ 32 + 1
  | .tmt => (trunc32 dout).toNat % n + 1

/-- The bound check and the conversion alone, on a given output (R280, R281). The call a host makes on the block, which
refuses the bound before it draws, is `drawUniformInt` (Machine/HostProgram.lean). -/
def uniformInt (e : Engine) (bound : Int) (dout : U64) : Except SoftError Nat :=
  (checkBound bound).map (fun n => uniformIntOfDout e n dout)

/-- `uniformFloat` of xorshift64*: the value and the new state (R272). -/
def xs64UniformFloat (r : U64) : Rat × U64 := (uniformFloatXs (xs64Next r).1, (xs64Next r).2)

/-- `uniformInt(n)` of xorshift64*: the value and the new state (R272, R281). -/
def xs64UniformInt (bound : Int) (r : U64) : Except SoftError (Nat × U64) :=
  (checkBound bound).map (fun n => ((xs64Next r).1.toNat % n + 1, (xs64Next r).2))

/-- `uniformFloat` of AS183: the value and the new state (R285). -/
def as183UniformFloat (s : As183) : Rat × As183 := (as183Uniform (as183Advance s), as183Advance s)

/-- `uniformInt(n, state)` of AS183: `floor(uniformFloat * n) + 1` and the new state (R285, R281). -/
def as183UniformInt (bound : Int) (s : As183) : Except SoftError (Int × As183) :=
  (checkBound bound).map (fun n => (((as183UniformFloat s).1 * (n : Rat)).floor + 1, (as183UniformFloat s).2))

/-! ### The OPEN host parameters, `seed` and `initialState` (R271 to R278, R284 to R287) -/

/-- The OPEN parameters of the host (93_implementation_defined.md B29 to B32), taken as an argument. A field with a
default holds the spec's general-knowledge default (PRESUMED, log 20); the others have no value in the source. -/
structure HostParams where
  /-- `HOST_INT_REDUCE` (R278) -/
  intReduce : (w : Nat) → Int → BitVec w := hostIntReduce
  /-- `XS_SEED_PROC` (R271): the ring words, slot 0 first -/
  xsSeedProc : BitVec 21 → BitVec 21 → BitVec 21 → List U64 := xs1024FromWords
  /-- `XS64_SEED_PROC` (R272) -/
  xs64SeedProc : Int → Int → Int → U64
  /-- `XS128P_SEED_PROC` (R286) -/
  xs128pSeedProc : Int → Int → Int → U64 × U64
  /-- `SFMT_INT_SEED_PROC` (R273) -/
  sfmtIntSeedProc : U32 → List U32 := sfmtFromWord
  /-- `SFMT_LIST_SEED_PROC` (R274) -/
  sfmtListSeedProc : List U32 → List U32 := fun key => (sfmtFromWordList key).toList
  /-- `TMT_SEED_PROC` (R277) -/
  tmtSeedProc : Params → List U32 → Vector U32 4 := tmtMix
  /-- `HOST_FLOAT` (R279): the host's float nearest in its format and rounding, as the real number it stands for -/
  hostFloat : Rat → Rat
  /-- `HOST_DEFAULT_SEED` of xorshift1024* (R284): the ring words, slot 0 first -/
  xsDefaultSeed : List U64
  /-- `HOST_DEFAULT_SEED` of SFMT-19937 (R284): the words to load, before certification -/
  sfmtDefaultSeed : List U32
  /-- `HOST_DEFAULT_SEED` of TinyMT32 (R284): the words to load, before certification and warm-up -/
  tmtDefaultSeed : Vector U32 4
  /-- the initial state of xorshift64*, for which the spec gives neither a value nor a parameter (log 20) -/
  xs64DefaultSeed : U64
  /-- the initial state of xorshift128+, likewise (log 20) -/
  xs128pDefaultSeed : U64 × U64

/-- What `seed` or `initialState` gives the host: the state of an engine it runs itself, or the words it loads into an
engine of the block, before certification and warm-up there. -/
inductive HostSeed where
  | as183 (state : As183)
  | xorshift64star (state : U64)
  | xorshift128plus (state : U64 × U64)
  | xorshift1024star (words : List U64)
  | sfmt19937 (words : List U32)
  | tinymt32 (words : Vector U32 4)
  deriving DecidableEq, Repr

/-- `seed(a1, a2, a3)` of a named algorithm, or of the default one (R287). Three integers seed SFMT-19937 by
`fromWordList`, which is "used for multi-value seeding" (R274). -/
def hostSeed (h : HostParams) (p : Params) (algorithm : Option Algorithm) (a1 a2 a3 : Int) : HostSeed :=
  match algorithm.getD defaultAlgorithm with
  | .as183 => .as183 (as183Seed a1 a2 a3)
  | .xorshift64star => .xorshift64star (h.xs64SeedProc a1 a2 a3)
  | .xorshift128plus => .xorshift128plus (h.xs128pSeedProc a1 a2 a3)
  | .xorshift1024star => .xorshift1024star (h.xsSeedProc (h.intReduce 21 a1) (h.intReduce 21 a2) (h.intReduce 21 a3))
  | .sfmt19937 => .sfmt19937 (h.sfmtListSeedProc ([a1, a2, a3].map (h.intReduce 32)))
  | .tinymt32 => .tinymt32 (h.tmtSeedProc p ([a1, a2, a3].map (h.intReduce 32)))

/-- SFMT-19937 `fromInteger(seed)` (R273, R278). -/
def hostSeedInteger (h : HostParams) (seed : Int) : HostSeed := .sfmt19937 (h.sfmtIntSeedProc (h.intReduce 32 seed))

/-- `initialState()` of a named algorithm, or of the default one (R287): AS183's is the fixed triple (R285), the block
engines' are HOST_DEFAULT_SEED (R284). -/
def hostInitialState (h : HostParams) (algorithm : Option Algorithm) : HostSeed :=
  match algorithm.getD defaultAlgorithm with
  | .as183 => .as183 as183Initial
  | .xorshift64star => .xorshift64star h.xs64DefaultSeed
  | .xorshift128plus => .xorshift128plus h.xs128pDefaultSeed
  | .xorshift1024star => .xorshift1024star h.xsDefaultSeed
  | .sfmt19937 => .sfmt19937 h.sfmtDefaultSeed
  | .tinymt32 => .tinymt32 h.tmtDefaultSeed

/-- `seed` of an algorithm by its identifier: an unknown one fails before anything else happens (R281, R287). -/
def hostSeedById (h : HostParams) (p : Params) (id : String) (a1 a2 a3 : Int) : Except SoftError HostSeed :=
  (resolveAlgorithm id).map (fun algorithm => hostSeed h p (some algorithm) a1 a2 a3)

/-- `initialState` of an algorithm by its identifier (R281, R287). -/
def hostInitialStateById (h : HostParams) (id : String) : Except SoftError HostSeed :=
  (resolveAlgorithm id).map (fun algorithm => hostInitialState h (some algorithm))

end Sys2Proof.Machine
end

