-- ==== Sys2Proof/Machine/HostProgram.lean ====
section
/-! DEFINITION. Host software, outside the block (00_scope.md R6): the assembler of 30_encoding.md R112, the host bus
operations of R113 run against `step`, the pseudo-instructions of R114, and the flows of 48_host_procedures.md and
70_reset_and_hazards.md section 2 that are made of them. No step of the block uses this file. -/

namespace Sys2Proof.Machine

/-! ### Assembler (R112) -/

/-- The commands by mnemonic, with index 0 where one is taken: one per row of R111's table. -/
def commandList : List Instr :=
  [.nop, .clrerr, .xsLdw 0, .sfmtLdw 0, .tmtLdw 0, .xsRdw 0, .sfmtRdw 0, .tmtRdw 0, .xsLdp, .sfmtLdp, .xsRdp, .sfmtRdp,
    .xsErst, .sfmtErst, .tmtErst, .xsNext, .xsAdv, .xsCert, .xsArm, .sfmtNext, .sfmtRefill, .sfmtCert, .sfmtArm,
    .tmtNext, .tmtAdv, .tmtCert, .tmtArm]

/-- A command with its index operand put in (only LDW and RDW take one, R104). -/
def withIndexOperand (k : BitVec 10) : Instr → Instr
  | .xsLdw _ => .xsLdw k
  | .sfmtLdw _ => .sfmtLdw k
  | .tmtLdw _ => .tmtLdw k
  | .xsRdw _ => .xsRdw k
  | .sfmtRdw _ => .sfmtRdw k
  | .tmtRdw _ => .tmtRdw k
  | i => i

/-- The assembled word of a mnemonic and its operand. "LDW and RDW take the index as one operand", "No other command
takes an operand" (R112). DEDUCED (log 17): the index refused is one that does not fit the 10-bit field, since the
spec's own programs assemble `xs.rdw 16` and `tmt.ldw 4` (95_test_vectors.md P4). -/
def assemble (mnemonic : String) (operand : Option Nat) : Option U32 :=
  match commandList.find? (fun i => (opcodeRow i).mnemonic == mnemonic), operand with
  | some i, none => if indexOperand i = none then some (encode i) else none
  | some i, some k =>
    if indexOperand i = none ∨ 1024 ≤ k then none else some (encode (withIndexOperand (BitVec.ofNat 10 k) i))
  | none, _ => none

/-! ### Host bus operations (R113) -/

/-- The bus operations of R113. -/
inductive HostOp where
  /-- `wr din, v` -/
  | wrDin (v : U64)
  /-- `wr din.lo, v` -/
  | wrDinLo (v : U32)
  /-- `wr din.hi, v` -/
  | wrDinHi (v : U32)
  /-- `cmd <mnemonic> [idx]` -/
  | cmd (i : Instr)
  /-- `cmdw 0xHHHHHHHH` -/
  | cmdw (w : U32)
  /-- `rd dout` -/
  | rdDout
  /-- `rd status` -/
  | rdStatus
  /-- `rd id` -/
  | rdId
  /-- `wait` -/
  | wait
  deriving DecidableEq, Repr

/-- The access an operation makes; `wait` repeats the access of `rd status`. -/
def hostOpAccess (base : Nat) : HostOp → Access
  | .wrDin v => .write (base + 0x10) 8 v
  | .wrDinLo v => .write (base + 0x10) 4 (zext64 v)
  | .wrDinHi v => .write (base + 0x14) 4 (zext64 v)
  | .cmd i => .write base 4 (zext64 (encode i))
  | .cmdw w => .write base 4 (zext64 w)
  | .rdDout => .read (base + 0x18) 8
  | .rdStatus | .wait => .read (base + 0x08) 8
  | .rdId => .read (base + 0x20) 8

/-- One step of the block with the operation's access as the next event; none where the step stops. -/
def hostStep (op : HostOp) (s : State) : Option State :=
  match step { s with port := .access (hostOpAccess s.cfg.base op) :: s.port } with
  | .next t => some t
  | .fault _ => none
  | .refused _ => none

/-- "repeat `rd status` until STATUS.BUSY = 0", at most `fuel` times. -/
def hostWait : Nat → State → Option State
  | 0, _ => none
  | fuel + 1, s =>
    match hostStep .wait s with
    | none => none
    | some t => if t.rdata.getLsbD 0 then hostWait fuel t else some t

/-- One operation. -/
def runHostOp (fuel : Nat) (op : HostOp) (s : State) : Option State :=
  match op with
  | .wait => hostWait fuel s
  | _ => hostStep op s

/-- A sequence of operations; none where a step stops or a `wait` runs out of fuel. -/
def runHostOps (fuel : Nat) : List HostOp → State → Option State
  | [], s => some s
  | op :: rest, s =>
    match runHostOp fuel op s with
    | none => none
    | some t => runHostOps fuel rest t

/-- The data an operation gives the host program, from the state after it: what `rd` returned. `wait` reads STATUS for
itself and gives none (R113). -/
def hostOpData (op : HostOp) (t : State) : List U64 :=
  match op with
  | .rdDout | .rdStatus | .rdId => [t.rdata]
  | .wrDin _ | .wrDinLo _ | .wrDinHi _ | .cmd _ | .cmdw _ | .wait => []

/-- A sequence of operations with the data of every `rd` in order, and the state after it. -/
def runHostReads (fuel : Nat) : List HostOp → State → Option (List U64 × State)
  | [], s => some ([], s)
  | op :: rest, s =>
    match runHostOp fuel op s with
    | none => none
    | some t =>
      match runHostReads fuel rest t with
      | none => none
      | some (reads, u) => some (hostOpData op t ++ reads, u)

/-! ### Pseudo-instructions (R114) -/

/-- `do <mnemonic>` -/
def pseudoDo (i : Instr) : List HostOp := [.cmd i, .wait]
/-- `xs.load i, v` -/
def pseudoXsLoad (k : BitVec 10) (v : U64) : List HostOp := .wrDin v :: pseudoDo (.xsLdw k)
/-- `sfmt.load i, v` -/
def pseudoSfmtLoad (k : BitVec 10) (v : U64) : List HostOp := .wrDin v :: pseudoDo (.sfmtLdw k)
/-- `tmt.load i, v` -/
def pseudoTmtLoad (k : BitVec 10) (v : U64) : List HostOp := .wrDin v :: pseudoDo (.tmtLdw k)
/-- `xs.setp v` -/
def pseudoXsSetp (v : U64) : List HostOp := .wrDin v :: pseudoDo .xsLdp
/-- `sfmt.setidx v` -/
def pseudoSfmtSetidx (v : U64) : List HostOp := .wrDin v :: pseudoDo .sfmtLdp
/-- `sfmt.invalidate` -/
def pseudoSfmtInvalidate : List HostOp := pseudoSfmtSetidx 624
/-- `get <eng>.next` and `get <eng>.rdw i`; R282 writes `get <eng>.rdp` in the same form -/
def pseudoGet (i : Instr) : List HostOp := pseudoDo i ++ [.rdDout]
/-- `tmt.warmup`: TMT_WARMUP = 8 times `tmt.adv` (00_scope.md R9) -/
def pseudoTmtWarmup : List HostOp := (List.replicate 8 (pseudoDo .tmtAdv)).flatten

/-! ### Flows (70_reset_and_hazards.md R333 to R335; 48_host_procedures.md R271, R276, R277, R282) -/

/-- Loads `words` into successive indices, the first at index `k`. -/
def loadWords (load : BitVec 10 → U64 → List HostOp) : Nat → List U64 → List HostOp
  | _, [] => []
  | k, v :: rest => load (BitVec.ofNat 10 k) v ++ loadWords load (k + 1) rest

/-- Boot of the xorshift1024* engine from 16 words, slot 0 first (R333, R271). -/
def bootXs (words : List U64) : List HostOp :=
  loadWords pseudoXsLoad 0 words ++ pseudoXsSetp 0 ++ pseudoDo .xsCert

/-- Boot of the SFMT-19937 engine from 624 words (R334, R276). -/
def bootSfmt (words : List U64) : List HostOp :=
  loadWords pseudoSfmtLoad 0 words ++ pseudoDo .sfmtCert ++ pseudoSfmtInvalidate

/-- Boot of the TinyMT32 engine from 4 words (R335, R277). -/
def bootTmt (words : List U64) : List HostOp :=
  loadWords pseudoTmtLoad 0 words ++ pseudoDo .tmtCert ++ pseudoTmtWarmup

/-- xorshift1024* `seed(a1, a2, a3)`, from the seed integers to an armed engine (R271, R278). -/
def seedXs (a1 a2 a3 : Int) : List HostOp := bootXs (xs1024Seed a1 a2 a3)
/-- SFMT-19937 `fromInteger` (R273, R276). -/
def seedSfmtInteger (seed : Int) : List HostOp := bootSfmt ((sfmtFromInteger seed).map zext64)
/-- SFMT-19937 `fromWordList` of seed integers (R274, R276, R278). -/
def seedSfmtList (key : List Int) : List HostOp := bootSfmt ((sfmtFromIntegerList key).toList.map zext64)
/-- TinyMT32 `seed(a1, a2, a3)` (R277, R278). -/
def seedTmt (p : Params) (a1 a2 a3 : Int) : List HostOp := bootTmt ((tmtSeed p a1 a2 a3).toList.map zext64)

/-- The flow that brings a seed or an initial state into its engine of the block (R271, R276, R277, R284); none for the
engines the host runs itself (R287). -/
def bootHostSeed : HostSeed → Option (List HostOp)
  | .xorshift1024star words => some (bootXs words)
  | .sfmt19937 words => some (bootSfmt (words.map zext64))
  | .tinymt32 words => some (bootTmt (words.toList.map zext64))
  | .as183 _ => none
  | .xorshift64star _ => none
  | .xorshift128plus _ => none

/-- Reads words 0 to `count - 1` of an engine, in order. -/
def readWords (read : BitVec 10 → Instr) (count : Nat) : List HostOp :=
  (List.range count).flatMap (fun k => pseudoGet (read (BitVec.ofNat 10 k)))

/-- Save of an armed xorshift1024* state: the 16 slots, then the pointer (R282). Its reads are the saved state. -/
def saveXs : List HostOp := readWords .xsRdw 16 ++ pseudoGet .xsRdp

/-- Save of an armed SFMT-19937 state: the 624 words, then the cursor (R282). -/
def saveSfmt : List HostOp := readWords .sfmtRdw 624 ++ pseudoGet .sfmtRdp

/-- Save of an armed TinyMT32 state: the 4 status words (R282). -/
def saveTmt : List HostOp := readWords .tmtRdw 4

/-- Restore of a saved xorshift1024* state (R282). -/
def restoreXs (words : List U64) (p : U64) : List HostOp :=
  loadWords pseudoXsLoad 0 words ++ pseudoXsSetp p ++ pseudoDo .xsArm

/-- Restore of a saved SFMT-19937 state (R282). -/
def restoreSfmt (words : List U64) (idx : U64) : List HostOp :=
  loadWords pseudoSfmtLoad 0 words ++ pseudoSfmtSetidx idx ++ pseudoDo .sfmtArm

/-- Restore of a saved TinyMT32 state (R282). -/
def restoreTmt (words : List U64) : List HostOp :=
  loadWords pseudoTmtLoad 0 words ++ pseudoDo .tmtArm

/-- Restore from the reads of `saveXs` (R282). -/
def restoreXsReads (reads : List U64) : List HostOp := restoreXs (reads.take 16) (reads.getD 16 0)

/-- Restore from the reads of `saveSfmt` (R282). -/
def restoreSfmtReads (reads : List U64) : List HostOp := restoreSfmt (reads.take 624) (reads.getD 624 0)

/-- Restore from the reads of `saveTmt` (R282). -/
def restoreTmtReads (reads : List U64) : List HostOp := restoreTmt (reads.take 4)

/-! ### Draws from an engine of the block (48_host_procedures.md R279 to R281) -/

/-- NEXT of an engine. -/
def engineNext : Engine → Instr
  | .xs => .xsNext
  | .sfmt => .sfmtNext
  | .tmt => .tmtNext

/-- One `get <eng>.next`: what the host read from DOUT, and the block after it. None where a step stops or a `wait` runs
out of fuel. -/
def drawRaw (fuel : Nat) (e : Engine) (s : State) : Option (U64 × State) :=
  (runHostOps fuel (pseudoGet (engineNext e)) s).map (fun t => (t.rdata, t))

/-- A call of `uniformFloat` on an engine of the block: one NEXT, then the engine's formula in the host's float format
(R279). -/
def drawUniformFloat (h : HostParams) (fuel : Nat) (e : Engine) (s : State) : Option (Rat × State) :=
  (drawRaw fuel e s).map (fun p => (h.hostFloat (uniformFloatOfDout e p.1), p.2))

/-- A call of `uniformInt(n)` on an engine of the block (R280, R281): n < 1 is refused and no operation is made; else one
NEXT, then the engine's formula. -/
def drawUniformInt (fuel : Nat) (e : Engine) (bound : Int) (s : State) : Except SoftError (Option (Nat × State)) :=
  match checkBound bound with
  | .error err => .error err
  | .ok n => .ok ((drawRaw fuel e s).map (fun p => (uniformIntOfDout e n p.1, p.2)))

end Sys2Proof.Machine
end

