-- ==== Sys2Proof/Safety.lean ====
section
/-! DEFINITION. What a good state of the block is, and the few terms the statements use: how a command fails, what an
engine's state is, and the invariants of the spec (10_state.md R35, R38, R41, R47; 60_exceptions.md R301, R303). -/

namespace Sys2Proof.Machine

/-! ### Failure (60_exceptions.md R302, R303) -/

/-- `s` after a failure with code e: the code is recorded if none was, PEND is empty, all else is as it was. -/
def failedState (e : ErrCode) (s : State) : State :=
  { s with
    err := true
    errcode := if s.err then s.errcode else errNumber e
    pend := none }

/-- The command fails with code e and has no other effect. -/
def failsWith (e : ErrCode) (i : Instr) (s : State) : Prop := exec i s = .next (failedState e s)

/-- The command's word with any nonzero IDX is rejected with E_RSVD_BITS (30_encoding.md R106). -/
def rejectsIndex (i : Instr) : Prop :=
  ∀ k : BitVec 10, k ≠ 0 → decode (encode i ||| (k.setWidth 32 <<< 8)) = .error .rsvdBits

/-! ### Engine state -/

/-- The engine a command works on; none for NOP and CLRERR (30_encoding.md R102). -/
def engineUsed : Instr → Option Engine
  | .nop | .clrerr => none
  | .xsLdw _ | .xsRdw _ | .xsLdp | .xsRdp | .xsErst | .xsNext | .xsAdv | .xsCert | .xsArm => some .xs
  | .sfmtLdw _ | .sfmtRdw _ | .sfmtLdp | .sfmtRdp | .sfmtErst | .sfmtNext | .sfmtRefill | .sfmtCert | .sfmtArm =>
    some .sfmt
  | .tmtLdw _ | .tmtRdw _ | .tmtErst | .tmtNext | .tmtAdv | .tmtCert | .tmtArm => some .tmt

/-- The engine's words, pointer or cursor, and ARMED bit are the same in both states. -/
def sameEngine (e : Engine) (s t : State) : Prop :=
  match e with
  | .xs => t.xsW = s.xsW ∧ t.xsP = s.xsP ∧ t.armedXs = s.armedXs
  | .sfmt => t.sfW = s.sfW ∧ t.sfIdx = s.sfIdx ∧ t.armedSf = s.armedSf
  | .tmt => t.tmS = s.tmS ∧ t.armedTm = s.armedTm

/-! ### Invariants -/

/-- "ERRCODE is 0 exactly when ERR is 0" (10_state.md R41), and no code above 11 is ever recorded (60_exceptions.md
R301). -/
def errorRecordOk (s : State) : Prop := (s.err = false ↔ s.errcode = 0) ∧ s.errcode.toNat ≤ 11

/-- SF.IDX holds a value in 0..624 (10_state.md R35). -/
def cursorOk (s : State) : Prop := s.sfIdx.toNat ≤ 624

/-- No armed engine holds a zero or degenerate state (41_xorshift1024.md R172, 42_sfmt19937.md R212, 43_tinymt32.md
R249). -/
def armedOk (s : State) : Prop :=
  (s.armedXs = true → ∃ k, k < 16 ∧ readWord s.xsW k ≠ 0)
    ∧ (s.armedSf = true → ∃ k, k < 624 ∧ readWord s.sfW k ≠ 0)
    ∧ (s.armedTm = true → tmDegenerate s.tmS = false)

/-- PEND, while full, holds a command that decodes, whose acceptance checks pass, and that has a step left (10_state.md
R47, 20_memory.md R78). -/
def pendOk (s : State) : Prop :=
  ∀ p, s.pend = some p → 0 < p.left ∧ ∃ i, decode p.cmd = .ok i ∧ acceptCheck i s = none

/-- A good state of the block: every invariant holds and the parameters are a valid configuration. -/
def goodState (s : State) : Prop :=
  errorRecordOk s ∧ cursorOk s ∧ armedOk s ∧ pendOk s ∧ validConfig s.cfg = true

end Sys2Proof.Machine
end

