-- ==== Sys2Proof/Certificates/Slice0/Obligations.lean ====
section
/-! DEFINITION. The statements for the provers. "R<n>" is a numbered rule of spec/; each docstring names the rules a
statement formalises, or says what it is derived from. -/

open Sys2Proof Sys2Proof.Machine

/-! ### Encoding (30_encoding.md) -/

/-- Words written out from R111's table, one for each family, and words the table of 95_test_vectors.md 2.1 rejects.
-/
def Obligations.DecodeReadsSampleWords : Prop :=
  decode 0x00000000 = .ok .nop ∧ decode 0x0000000E = .ok .clrerr
    ∧ decode 0x00000F01 = .ok (.xsLdw 15) ∧ decode 0x00026F12 = .ok (.sfmtRdw 623)
    ∧ decode 0x00000622 = .ok (.tmtRdw 6) ∧ decode 0x00000013 = .ok .sfmtLdp
    ∧ decode 0x0000002D = .ok .tmtErst ∧ decode 0x00000006 = .ok .xsAdv
    ∧ decode 0x00000017 = .ok .sfmtRefill ∧ decode 0x00000029 = .ok .tmtArm
    ∧ decode 0x00040000 = .error .rsvdBits ∧ decode 0x0000003F = .error .illegalOp
    ∧ decode 0x00000031 = .error .illegalEng ∧ decode 0x00000723 = .error .opEngine

/-- Decode and encode agree on every command, with every value of the 10-bit index field. -/
def Obligations.DecodeOfEncodeIsIdentity : Prop :=
  ∀ i : Instr, decode (encode i) = .ok i

/-- A word that decodes is the encoding of what it decodes to: no bit of a command word is ignored. -/
def Obligations.DecodedWordIsItsEncoding : Prop :=
  ∀ (w : U32) (i : Instr), decode w = .ok i → encode i = w

/-- R111: a word spells a command exactly when it matches the command's row, with the index in IDX. -/
def Obligations.DecodeMatchesOpcodeMap : Prop :=
  ∀ (w : U32) (i : Instr),
    decode w = .ok i ↔
      (w &&& (opcodeRow i).mask = (opcodeRow i).pattern
        ∧ ∀ k, indexOperand i = some k → k = w.extractLsb' 8 10)

/-- R106, R107: which words are rejected, and with which code, over all 2^32 words, in the order of R110. -/
def Obligations.RejectedWordsByFirstFailingCheck : Prop :=
  ∀ w : U32,
    let op := w.extractLsb' 0 4
    let eng := w.extractLsb' 4 2
    let idx := w.extractLsb' 8 10
    let clean := w.extractLsb' 6 2 = 0#2 ∧ w.extractLsb' 18 14 = 0#14
    let reservedOp := op = 0xA#4 ∨ op = 0xB#4 ∨ op = 0xC#4 ∨ op = 0xF#4
    let control := op = 0x0#4 ∨ op = 0xE#4
    let badPair := (op = 0x7#4 ∧ eng = 0#2) ∨ (op = 0x6#4 ∧ eng = 1#2) ∨ (op = 0x3#4 ∧ eng = 2#2)
      ∨ (op = 0x4#4 ∧ eng = 2#2) ∨ (op = 0x7#4 ∧ eng = 2#2)
    let indexed := op = 0x1#4 ∨ op = 0x2#4
    (decode w = .error .illegalOp ↔ clean ∧ reservedOp)
      ∧ (decode w = .error .illegalEng ↔ clean ∧ ¬reservedOp ∧ ¬control ∧ eng = 3#2)
      ∧ (decode w = .error .opEngine ↔ clean ∧ badPair)
      ∧ (decode w = .error .rsvdBits ↔
          ¬clean ∨ (control ∧ (eng ≠ 0#2 ∨ idx ≠ 0#10))
            ∨ (¬reservedOp ∧ ¬control ∧ eng ≠ 3#2 ∧ ¬badPair ∧ ¬indexed ∧ idx ≠ 0#10))
      ∧ (∀ e, decode w = .error e → e = .illegalOp ∨ e = .illegalEng ∨ e = .opEngine ∨ e = .rsvdBits)

/-! ### Control and state access (40_state_access.md) -/

/-- R130, R131: the words of OP 0x0 and 0xE, what the two commands do, and how they fail: a malformed word and a word
written while another command is pending only record their error, the first one after a CLRERR included. -/
def Obligations.ControlCommandsRun : Prop :=
  (encode .nop = 0x00000000 ∧ encode .clrerr = 0x0000000E)
    ∧ (∀ w : U32, w.extractLsb' 0 4 = 0x0#4 → w ≠ 0x00000000 → decode w = .error .rsvdBits)
    ∧ (∀ w : U32, w.extractLsb' 0 4 = 0xE#4 → w ≠ 0x0000000E → decode w = .error .rsvdBits)
    ∧ (∀ s, exec .nop s = .next { s with pend := none })
    ∧ (∀ s, exec .clrerr s = .next { s with err := false, errcode := 0, pend := none })
    ∧ (∀ (s : State) (w : U32), s.pend = none →
        (w.extractLsb' 0 4 = 0x0#4 ∧ w ≠ 0x00000000) ∨ (w.extractLsb' 0 4 = 0xE#4 ∧ w ≠ 0x0000000E) →
        hostAccess (.write s.cfg.base 4 (w.setWidth 64)) s = .next (recordError .rsvdBits s))
    ∧ (∀ s : State, s.pend.isSome = true →
        hostAccess (.write s.cfg.base 4 0x00000000) s = .next (recordError .busy s)
          ∧ hostAccess (.write s.cfg.base 4 0x0000000E) s = .next (recordError .busy s))
    ∧ (∀ (e : ErrCode) (s : State), s.err = false → recordError e s = { s with err := true, errcode := errNumber e })
    ∧ (∀ (e : ErrCode) (s : State), s.err = true → recordError e s = s)

/-- R132, R133, R134: for every index of the field, the load or the failure. -/
def Obligations.LoadWordCommandsRun : Prop :=
  (∀ k : BitVec 10, encode (.xsLdw k) = 0x00000001 ||| (k.setWidth 32 <<< 8)
      ∧ encode (.sfmtLdw k) = 0x00000011 ||| (k.setWidth 32 <<< 8)
      ∧ encode (.tmtLdw k) = 0x00000021 ||| (k.setWidth 32 <<< 8))
    ∧ (∀ (k : BitVec 10) (s : State), k.toNat < 16 →
        exec (.xsLdw k) s =
          .next { s with xsW := writeWord s.xsW k.toNat (operandDin s), armedXs := false, pend := none })
    ∧ (∀ (k : BitVec 10) (s : State), 16 ≤ k.toNat → failsWith .idxRange (.xsLdw k) s)
    ∧ (∀ (k : BitVec 10) (s : State), k.toNat < 624 →
        exec (.sfmtLdw k) s =
          .next { s with
            sfW := writeWord s.sfW k.toNat ((operandDin s).extractLsb' 0 32), armedSf := false, pend := none })
    ∧ (∀ (k : BitVec 10) (s : State), 624 ≤ k.toNat → failsWith .idxRange (.sfmtLdw k) s)
    ∧ (∀ (k : BitVec 10) (s : State), k.toNat < 4 →
        exec (.tmtLdw k) s =
          .next { s with
            tmS := writeWord s.tmS k.toNat ((operandDin s).extractLsb' 0 32), armedTm := false, pend := none })
    ∧ (∀ (k : BitVec 10) (s : State), 4 ≤ k.toNat → k.toNat < 7 → failsWith .readOnly (.tmtLdw k) s)
    ∧ (∀ (k : BitVec 10) (s : State), 7 ≤ k.toNat → failsWith .idxRange (.tmtLdw k) s)

/-- R135, R136, R137: for every index of the field, the read or the failure; only DOUT changes. -/
def Obligations.ReadWordCommandsRun : Prop :=
  (∀ k : BitVec 10, encode (.xsRdw k) = 0x00000002 ||| (k.setWidth 32 <<< 8)
      ∧ encode (.sfmtRdw k) = 0x00000012 ||| (k.setWidth 32 <<< 8)
      ∧ encode (.tmtRdw k) = 0x00000022 ||| (k.setWidth 32 <<< 8))
    ∧ (∀ (k : BitVec 10) (s : State), k.toNat < 16 →
        exec (.xsRdw k) s = .next { s with dout := readWord s.xsW k.toNat, pend := none })
    ∧ (∀ (k : BitVec 10) (s : State), 16 ≤ k.toNat → failsWith .idxRange (.xsRdw k) s)
    ∧ (∀ (k : BitVec 10) (s : State), k.toNat < 624 →
        exec (.sfmtRdw k) s = .next { s with dout := (readWord s.sfW k.toNat).setWidth 64, pend := none })
    ∧ (∀ (k : BitVec 10) (s : State), 624 ≤ k.toNat → failsWith .idxRange (.sfmtRdw k) s)
    ∧ (∀ (k : BitVec 10) (s : State), k.toNat < 4 →
        exec (.tmtRdw k) s = .next { s with dout := (readWord s.tmS k.toNat).setWidth 64, pend := none })
    ∧ (∀ s : State, exec (.tmtRdw 4) s = .next { s with dout := s.cfg.tmtMat1.setWidth 64, pend := none })
    ∧ (∀ s : State, exec (.tmtRdw 5) s = .next { s with dout := s.cfg.tmtMat2.setWidth 64, pend := none })
    ∧ (∀ s : State, exec (.tmtRdw 6) s = .next { s with dout := s.cfg.tmtTmat.setWidth 64, pend := none })
    ∧ (∀ (k : BitVec 10) (s : State), 7 ≤ k.toNat → failsWith .idxRange (.tmtRdw k) s)

/-- R138 to R141: the pointer and the cursor take exactly the legal operand values, and are read back. -/
def Obligations.PointerAndCursorCommandsRun : Prop :=
  (encode .xsLdp = 0x00000003 ∧ encode .sfmtLdp = 0x00000013 ∧ encode .xsRdp = 0x00000004
      ∧ encode .sfmtRdp = 0x00000014)
    ∧ (rejectsIndex .xsLdp ∧ rejectsIndex .sfmtLdp ∧ rejectsIndex .xsRdp ∧ rejectsIndex .sfmtRdp)
    ∧ (∀ s : State, (operandDin s).toNat ≤ 15 →
        exec .xsLdp s = .next { s with xsP := BitVec.ofNat 4 (operandDin s).toNat, pend := none })
    ∧ (∀ s : State, 15 < (operandDin s).toNat → failsWith .badValue .xsLdp s)
    ∧ (∀ s : State, (operandDin s).toNat ≤ 624 →
        exec .sfmtLdp s = .next { s with sfIdx := BitVec.ofNat 10 (operandDin s).toNat, pend := none })
    ∧ (∀ s : State, 624 < (operandDin s).toNat → failsWith .badValue .sfmtLdp s)
    ∧ (∀ s : State, exec .xsRdp s = .next { s with dout := BitVec.ofNat 64 s.xsP.toNat, pend := none })
    ∧ (∀ s : State, exec .sfmtRdp s = .next { s with dout := BitVec.ofNat 64 s.sfIdx.toNat, pend := none })

/-- R142, R143, R144: each ERST gives its engine the reset state and touches nothing else. -/
def Obligations.EngineResetCommandsRun : Prop :=
  (encode .xsErst = 0x0000000D ∧ encode .sfmtErst = 0x0000001D ∧ encode .tmtErst = 0x0000002D)
    ∧ (rejectsIndex .xsErst ∧ rejectsIndex .sfmtErst ∧ rejectsIndex .tmtErst)
    ∧ (∀ s : State, exec .xsErst s =
        .next { s with xsW := Vector.replicate 16 0, xsP := 0, armedXs := false, pend := none })
    ∧ (∀ s : State, exec .sfmtErst s =
        .next { s with sfW := Vector.replicate 624 0, sfIdx := 624, armedSf := false, pend := none })
    ∧ (∀ s : State, exec .tmtErst s = .next { s with tmS := Vector.replicate 4 0, armedTm := false, pend := none })

/-- Derived from 20_memory.md section 3 and 70_reset_and_hazards.md section 3: a pending command's result does not
depend on what DIN holds after acceptance, and DIN is left as it is. -/
def Obligations.PendingCommandIgnoresLaterDin : Prop :=
  ∀ (i : Instr) (s : State) (p : Pend) (v : U64), s.pend = some p →
    operandDin s = p.din
      ∧ ∃ t, exec i s = .next t ∧ t.din = s.din ∧ exec i { s with din := v } = .next { t with din := v }

/-! ### xorshift1024* (41_xorshift1024.md) -/

/-- R171. -/
def Obligations.XsStepFollowsRecurrence : Prop :=
  ∀ (ring : Vector U64 16) (p : BitVec 4),
    let q := (p.toNat + 1) % 16
    let s0 := readWord ring p.toNat
    let s1 := readWord ring q
    let a := s1 ^^^ (s1 <<< 31)
    let nw := (s0 ^^^ (s0 >>> 30)) ^^^ (a ^^^ (a >>> 11))
    (xsStep ring p).2.1.toNat = q ∧ (xsStep ring p).2.2 = nw ∧ readWord (xsStep ring p).1 q = nw
      ∧ ∀ k, k < 16 → k ≠ q → readWord (xsStep ring p).1 k = readWord ring k

/-- Derived from 41_xorshift1024.md section 1 (R170, R172): the step is an injective map of the ring that fixes zero,
so no nonzero ring becomes zero. -/
def Obligations.XsStepKeepsNonzeroRings : Prop :=
  ∀ (p : BitVec 4),
    (∀ ring ring' : Vector U64 16, (xsStep ring p).1 = (xsStep ring' p).1 → ring = ring')
      ∧ (∀ ring ring' : Vector U64 16,
          (xsStep (Vector.zipWith (· ^^^ ·) ring ring') p).1
            = Vector.zipWith (· ^^^ ·) (xsStep ring p).1 (xsStep ring' p).1)
      ∧ (∀ ring : Vector U64 16,
          (xsStep ring p).1 = Vector.replicate 16 0 ↔ ring = Vector.replicate 16 0)

/-- R173. -/
def Obligations.XsOutputIsLowProduct : Prop :=
  ∀ nw : U64, (xsOut nw).toNat = nw.toNat * 1181783497276652981 % 2 ^ 64

/-- R174, R175. -/
def Obligations.XsAdvanceCommandsRun : Prop :=
  (encode .xsNext = 0x00000005 ∧ encode .xsAdv = 0x00000006)
    ∧ (rejectsIndex .xsNext ∧ rejectsIndex .xsAdv)
    ∧ (∀ s : State, s.armedXs = true →
        exec .xsNext s =
          .next { s with
            xsW := (xsStep s.xsW s.xsP).1
            xsP := (xsStep s.xsW s.xsP).2.1
            dout := xsOut (xsStep s.xsW s.xsP).2.2
            pend := none })
    ∧ (∀ s : State, s.armedXs = true →
        exec .xsAdv s =
          .next { s with xsW := (xsStep s.xsW s.xsP).1, xsP := (xsStep s.xsW s.xsP).2.1, pend := none })
    ∧ (∀ s : State, s.armedXs = false → failsWith .notArmed .xsNext s ∧ failsWith .notArmed .xsAdv s)

/-- R176, R177. -/
def Obligations.XsCertifyCommandsRun : Prop :=
  (encode .xsCert = 0x00000008 ∧ encode .xsArm = 0x00000009)
    ∧ (rejectsIndex .xsCert ∧ rejectsIndex .xsArm)
    ∧ (∀ s : State, (∃ k, k < 16 ∧ readWord s.xsW k ≠ 0) →
        exec .xsCert s = .next { s with armedXs := true, certFixed := false, pend := none }
          ∧ exec .xsArm s = .next { s with armedXs := true, pend := none })
    ∧ (∀ s : State, (∀ k, k < 16 → readWord s.xsW k = 0) →
        failsWith .degenerate .xsCert s ∧ failsWith .degenerate .xsArm s)

/-- Derived from 10_state.md section 2 (the two-queue correspondence) and 41_xorshift1024.md section 1. The reversal
of the reserve when the active queue holds one word is the model's reading (log 18, DEDUCED). -/
def Obligations.TwoQueueFormRefinesRing : Prop :=
  ∀ (active reserve : List U64) (ring : Vector U64 16) (p : BitVec 4),
    queuesMatchRing active reserve ring p →
      queuesMatchRing (queueStep active reserve).1 (queueStep active reserve).2.1 (xsStep ring p).1 (xsStep ring p).2.1
        ∧ (queueStep active reserve).2.2 = (xsStep ring p).2.2

/-! ### SFMT-19937 (42_sfmt19937.md) -/

/-- R201: the lane view of the words, read and written. -/
def Obligations.LaneIsLittleEndianView : Prop :=
  ∀ (words : Vector U32 624) (j : Nat), j < 156 →
    (laneOf words j).toNat
        = (readWord words (4 * j)).toNat + (readWord words (4 * j + 1)).toNat * 2 ^ 32
          + (readWord words (4 * j + 2)).toNat * 2 ^ 64 + (readWord words (4 * j + 3)).toNat * 2 ^ 96
      ∧ (∀ m, m < 4 → (laneOf words j).extractLsb' (32 * m) 32 = readWord words (4 * j + m))
      ∧ (∀ k, k < 624 → readWord words k = (laneOf words (k / 4)).extractLsb' (32 * (k % 4)) 32)
      ∧ (∀ x : U128, laneOf (writeLane words j x) j = x
          ∧ ∀ k, k < 156 → k ≠ j → laneOf (writeLane words j x) k = laneOf words k)

/-- R202, R203: the byte shifts of a lane, and every sub-word of the new lane. -/
def Obligations.SfRecFollowsSubWordFormula : Prop :=
  (∀ (x : U128) (n : Nat),
      (lshift128 x n).toNat = x.toNat * 2 ^ (8 * n) % 2 ^ 128 ∧ (rshift128 x n).toNat = x.toNat / 2 ^ (8 * n))
    ∧ ∀ (msk : Vector U32 4) (a b c d : U128) (m : Nat), m < 4 →
      (sfRec msk a b c d).extractLsb' (32 * m) 32
        = a.extractLsb' (32 * m) 32 ^^^ (lshift128 a 1).extractLsb' (32 * m) 32
          ^^^ ((b.extractLsb' (32 * m) 32 >>> 11) &&& readWord msk m)
          ^^^ (rshift128 c 1).extractLsb' (32 * m) 32 ^^^ (d.extractLsb' (32 * m) 32 <<< 18)

/-- R204, R205: every lane of the refilled buffer, from old lanes and from lanes of the same pass. -/
def Obligations.RefillFollowsLaneRecurrence : Prop :=
  ∀ (msk : Vector U32 4) (words : Vector U32 624) (i : Nat), i < 156 →
    let old := laneOf words
    let new := laneOf (sfRefill msk words)
    new i =
      sfRec msk (old i)
        (if i < 34 then old (i + 122) else new (i - 34))
        (if i < 2 then old (i + 154) else new (i - 2))
        (if i < 1 then old 155 else new (i - 1))

/-- Derived from 42_sfmt19937.md section 4 (R212): the refill is injective and F2-linear, so no nonzero state becomes
zero. -/
def Obligations.RefillKeepsNonzeroStates : Prop :=
  ∀ msk : Vector U32 4,
    (∀ words words' : Vector U32 624, sfRefill msk words = sfRefill msk words' → words = words')
      ∧ (∀ words words' : Vector U32 624,
          sfRefill msk (Vector.zipWith (· ^^^ ·) words words')
            = Vector.zipWith (· ^^^ ·) (sfRefill msk words) (sfRefill msk words'))
      ∧ (∀ words : Vector U32 624,
          sfRefill msk words = Vector.replicate 624 0 ↔ words = Vector.replicate 624 0)

/-- R206, R207. -/
def Obligations.SfmtOutputCommandsRun : Prop :=
  (encode .sfmtNext = 0x00000015 ∧ encode .sfmtRefill = 0x00000017)
    ∧ (rejectsIndex .sfmtNext ∧ rejectsIndex .sfmtRefill)
    ∧ (∀ s : State, s.armedSf = true → s.sfIdx.toNat = 624 →
        exec .sfmtNext s =
          .next { s with
            sfW := sfRefill s.cfg.sfmtMsk s.sfW
            dout := (readWord (sfRefill s.cfg.sfmtMsk s.sfW) 0).setWidth 64
            sfIdx := 1
            pend := none })
    ∧ (∀ s : State, s.armedSf = true → s.sfIdx.toNat < 624 →
        exec .sfmtNext s =
          .next { s with
            dout := (readWord s.sfW s.sfIdx.toNat).setWidth 64
            sfIdx := BitVec.ofNat 10 (s.sfIdx.toNat + 1)
            pend := none })
    ∧ (∀ s : State, s.armedSf = true →
        exec .sfmtRefill s =
          .next { s with sfW := sfRefill s.cfg.sfmtMsk s.sfW, sfIdx := 0, pend := none })
    ∧ (∀ s : State, s.armedSf = false → failsWith .notArmed .sfmtNext s ∧ failsWith .notArmed .sfmtRefill s)

/-- R208: the parity of the number of set bits of the combined masked words. -/
def Obligations.SfParityIsParityOfMaskedWords : Prop :=
  ∀ (parity : Vector U32 4) (words : Vector U32 624),
    let inner := (readWord words 0 &&& readWord parity 0) ^^^ (readWord words 1 &&& readWord parity 1)
      ^^^ (readWord words 2 &&& readWord parity 2) ^^^ (readWord words 3 &&& readWord parity 3)
    sfParity parity words = ((Finset.range 32).filter (fun b => inner.getLsbD b = true)).card % 2

/-- Derived from 42_sfmt19937.md section 3: under K1, an even parity is made odd by flipping exactly the first
qualifying bit of lane 0. The scan and the flip are R209's pseudocode. That a bit is always found and that the parity
becomes 1 are sentences R209 marks as derived from R208: "Either flip changes `inner` in exactly one bit position, so
SF_PARITY becomes 1" and "A DOC flip always finds a bit when the total popcount of SFMT_PARITY1..4 is odd". -/
def Obligations.SfFixFlipsFirstQualifyingBit : Prop :=
  ∀ (mode : CertFix) (parity : Vector U32 4) (words : Vector U32 624),
    (popcount (readWord parity 0) + popcount (readWord parity 1) + popcount (readWord parity 2)
      + popcount (readWord parity 3)) % 2 = 1 →
    sfParity parity words = 0 →
      let par := fun k => (readWord parity (k / 32)).getLsbD (k % 32)
      let bit := fun (ws : Vector U32 624) k => (readWord ws (k / 32)).getLsbD (k % 32)
      let fixed := sfFix mode parity words
      sfParity parity fixed = 1
        ∧ ∃ k, k < 128 ∧ par k = true ∧ (mode = .doc → bit words k = false)
          ∧ (∀ j, j < k → ¬(par j = true ∧ (mode = .ref ∨ bit words j = false)))
          ∧ (∀ j, j < 128 → bit fixed j = if j = k then !(bit words j) else bit words j)
          ∧ (∀ n, 4 ≤ n → n < 624 → readWord fixed n = readWord words n)

/-- Derived from 42_sfmt19937.md section 3 (R210): certification never fails, keeps an odd state, fixes an even one,
and leaves the cursor. -/
def Obligations.SfmtCertCommandRuns : Prop :=
  encode .sfmtCert = 0x00000018 ∧ rejectsIndex .sfmtCert
    ∧ (∀ s : State, sfParity s.cfg.sfmtParity s.sfW = 1 →
        exec .sfmtCert s = .next { s with armedSf := true, certFixed := false, pend := none })
    ∧ (∀ s : State, sfParity s.cfg.sfmtParity s.sfW ≠ 1 →
        exec .sfmtCert s =
          .next { s with
            sfW := sfFix s.cfg.sfmtCertFix s.cfg.sfmtParity s.sfW
            armedSf := true
            certFixed := true
            pend := none })

/-- Derived from 42_sfmt19937.md section 3: a valid block's state, once certified, is accepted as it is. -/
def Obligations.SecondSfmtCertChangesNothing : Prop :=
  ∀ s t : State, validConfig s.cfg = true → exec .sfmtCert s = .next t →
    exec .sfmtCert t = .next { t with certFixed := false } ∧ t.armedSf = true
      ∧ ∃ k, k < 4 ∧ readWord t.sfW k ≠ 0

/-- R211. -/
def Obligations.SfmtArmCommandRuns : Prop :=
  encode .sfmtArm = 0x00000019 ∧ rejectsIndex .sfmtArm
    ∧ (∀ s : State, (∃ k, k < 624 ∧ readWord s.sfW k ≠ 0) →
        exec .sfmtArm s = .next { s with armedSf := true, pend := none })
    ∧ (∀ s : State, (∀ k, k < 624 → readWord s.sfW k = 0) → failsWith .degenerate .sfmtArm s)

/-! ### TinyMT32 (43_tinymt32.md) -/

/-- R241. -/
def Obligations.TmStepFollowsRecurrence : Prop :=
  ∀ (mat1 mat2 : U32) (st : Vector U32 4),
    let y0 := readWord st 3
    let x0 := (readWord st 0 &&& 0x7fffffff) ^^^ readWord st 1 ^^^ readWord st 2
    let x1 := x0 ^^^ (x0 <<< 1)
    let y1 := (y0 ^^^ (y0 >>> 1)) ^^^ x1
    let m := -(y1 &&& 1)
    readWord (tmStep mat1 mat2 st) 0 = readWord st 1
      ∧ readWord (tmStep mat1 mat2 st) 1 = readWord st 2 ^^^ (mat1 &&& m)
      ∧ readWord (tmStep mat1 mat2 st) 2 = x1 ^^^ (y1 <<< 10) ^^^ (mat2 &&& m)
      ∧ readWord (tmStep mat1 mat2 st) 3 = y1

/-- R242. -/
def Obligations.TmTemperFollowsFormula : Prop :=
  ∀ (tmat : U32) (st : Vector U32 4),
    let t1 := readWord st 0 + (readWord st 2 >>> 8)
    tmTemper tmat st = readWord st 3 ^^^ t1 ^^^ (tmat &&& -(t1 &&& 1))

/-- R245: the two patterns. -/
def Obligations.DegenerateIsTwoPatterns : Prop :=
  ∀ st : Vector U32 4,
    tmDegenerate st = true ↔ (st = #v[0, 0, 0, 0] ∨ st = #v[0x80000000, 0, 0, 0])

/-- Derived from 43_tinymt32.md section 4 (R249): the step keeps degeneracy both ways, and is injective on the 127
bits. -/
def Obligations.TmStepKeepsDegeneracy : Prop :=
  ∀ (mat1 mat2 : U32),
    (∀ st : Vector U32 4, tmDegenerate (tmStep mat1 mat2 st) = tmDegenerate st)
      ∧ (∀ st st' : Vector U32 4,
          (readWord (tmStep mat1 mat2 st) 0 &&& 0x7fffffff) = (readWord (tmStep mat1 mat2 st') 0 &&& 0x7fffffff) →
          (∀ k, 1 ≤ k → k < 4 → readWord (tmStep mat1 mat2 st) k = readWord (tmStep mat1 mat2 st') k) →
          (readWord st 0 &&& 0x7fffffff) = (readWord st' 0 &&& 0x7fffffff)
            ∧ ∀ k, 1 ≤ k → k < 4 → readWord st k = readWord st' k)

/-- R243, R244. -/
def Obligations.TmtAdvanceCommandsRun : Prop :=
  (encode .tmtNext = 0x00000025 ∧ encode .tmtAdv = 0x00000026)
    ∧ (rejectsIndex .tmtNext ∧ rejectsIndex .tmtAdv)
    ∧ (∀ s : State, s.armedTm = true →
        exec .tmtNext s =
          .next { s with
            tmS := tmStep s.cfg.tmtMat1 s.cfg.tmtMat2 s.tmS
            dout := (tmTemper s.cfg.tmtTmat (tmStep s.cfg.tmtMat1 s.cfg.tmtMat2 s.tmS)).setWidth 64
            pend := none })
    ∧ (∀ s : State, s.armedTm = true →
        exec .tmtAdv s = .next { s with tmS := tmStep s.cfg.tmtMat1 s.cfg.tmtMat2 s.tmS, pend := none })
    ∧ (∀ s : State, s.armedTm = false → failsWith .notArmed .tmtNext s ∧ failsWith .notArmed .tmtAdv s)

/-- R246, R247, R248. -/
def Obligations.TmtCertifyCommandsRun : Prop :=
  (encode .tmtCert = 0x00000028 ∧ encode .tmtArm = 0x00000029)
    ∧ (rejectsIndex .tmtCert ∧ rejectsIndex .tmtArm)
    ∧ (∀ s : State, tmDegenerate s.tmS = true →
        exec .tmtCert s = .next { s with tmS := s.cfg.tmtRescue, certFixed := true, armedTm := true, pend := none }
          ∧ failsWith .degenerate .tmtArm s)
    ∧ (∀ s : State, tmDegenerate s.tmS = false →
        exec .tmtCert s = .next { s with certFixed := false, armedTm := true, pend := none }
          ∧ exec .tmtArm s = .next { s with armedTm := true, pend := none })

/-! ### The register window (10_state.md, 20_memory.md) -/

/-- Derived from 10_state.md sections 3 and 4 (R40, R43, R47): every bit of STATUS. That bit 0, BUSY, is 1 exactly while
PEND is full is DEDUCED from R43 and R47 (log 7). -/
def Obligations.StatusWordShowsItsFields : Prop :=
  ∀ s : State,
    (statusWord s).getLsbD 0 = s.pend.isSome ∧ (statusWord s).getLsbD 1 = s.err
      ∧ (statusWord s).extractLsb' 2 2 = 0#2 ∧ (statusWord s).extractLsb' 4 4 = s.errcode
      ∧ (statusWord s).getLsbD 8 = s.armedXs ∧ (statusWord s).getLsbD 9 = s.armedSf
      ∧ (statusWord s).getLsbD 10 = s.armedTm ∧ (statusWord s).getLsbD 11 = s.certFixed
      ∧ (statusWord s).extractLsb' 12 52 = 0#52

/-- Derived from 10_state.md section 3 (R45) and 20_memory.md section 2 (R73, R76): every bit of ID, which a 64-bit
read at offset 0x20 returns and no write changes; the write records E_BUS by R76. That the returned data stands in
`rdata` is the model's choice (log 5). -/
def Obligations.IdWordShowsItsFields : Prop :=
  (∀ (s : State) (v : U64),
      hostAccess (.read (s.cfg.base + 0x20) 8) s = .next { s with rdata := idWord s.cfg }
        ∧ hostAccess (.write (s.cfg.base + 0x20) 8 v) s = .next (recordError .bus s))
    ∧ ∀ cfg : Params,
    (idWord cfg).extractLsb' 0 3 = 0b111#3 ∧ (idWord cfg).extractLsb' 3 5 = 0#5
      ∧ (idWord cfg).extractLsb' 8 8 = 0x01#8 ∧ (idWord cfg).extractLsb' 16 16 = cfg.implId
      ∧ (idWord cfg).extractLsb' 32 32 = 0#32

/-- R302, with the numbers of R301: recording keeps the first code, and only CLRERR and reset clear the record: in any
step that is no reset, neither completes a CLRERR (pending or just written) nor starts from a clear record, both
fields stay. -/
def Obligations.FirstErrorIsKept : Prop :=
  (∀ (e : ErrCode) (s : State), s.err = false → recordError e s = { s with err := true, errcode := errNumber e })
    ∧ (∀ (e : ErrCode) (s : State), s.err = true → recordError e s = s)
    ∧ [ErrCode.illegalOp, .illegalEng, .rsvdBits, .opEngine, .idxRange, .readOnly, .badValue, .notArmed, .degenerate,
        .busy, .bus].map (fun e => (errNumber e).toNat) = [1, 2, 3, 4, 5, 6, 7, 8, 9, 10, 11]
    ∧ (∀ s t : State, step s = .next t → s.err = true → s.port.head? ≠ some .reset →
        (∀ p, s.pend = some p → p.cmd ≠ 0x0000000E) →
        (∀ v : U64, s.port.head? = some (.access (.write s.cfg.base 4 v)) → v.extractLsb' 0 32 ≠ 0x0000000E#32) →
          t.err = true ∧ t.errcode = s.errcode)
    ∧ (∀ s : State, exec .clrerr s = .next { s with err := false, errcode := 0, pend := none })
    ∧ (∀ s : State, (resetBlock s).err = false ∧ (resetBlock s).errcode = 0)

/-- Derived from 20_memory.md section 2: the 13 legal reads return their data and change nothing else. That the
returned data stands in `rdata` is the model's choice (log 5). -/
def Obligations.LegalReadsReturnRegisters : Prop :=
  ∀ s : State,
    let reads := fun (offset bytes : Nat) (v : U64) =>
      hostAccess (.read (s.cfg.base + offset) bytes) s = .next { s with rdata := v }
    let lo := fun v : U64 => (v.extractLsb' 0 32).setWidth 64
    let hi := fun v : U64 => (v.extractLsb' 32 32).setWidth 64
    reads 0x00 4 0
      ∧ reads 0x08 8 (statusWord s) ∧ reads 0x08 4 (lo (statusWord s)) ∧ reads 0x0C 4 (hi (statusWord s))
      ∧ reads 0x10 8 s.din ∧ reads 0x10 4 (lo s.din) ∧ reads 0x14 4 (hi s.din)
      ∧ reads 0x18 8 s.dout ∧ reads 0x18 4 (lo s.dout) ∧ reads 0x1C 4 (hi s.dout)
      ∧ reads 0x20 8 (idWord s.cfg) ∧ reads 0x20 4 (lo (idWord s.cfg)) ∧ reads 0x24 4 (hi (idWord s.cfg))

/-- Derived from 20_memory.md section 2: DIN written whole and by halves; a half write keeps the other half. That a
32-bit write carries its value in the low 32 bits of v is the model's reading (log 19, DEDUCED). -/
def Obligations.DinWritesKeepTheOtherHalf : Prop :=
  ∀ (s : State) (v : U64),
    hostAccess (.write (s.cfg.base + 0x10) 8 v) s = .next { s with din := v }
      ∧ (∃ d : U64, hostAccess (.write (s.cfg.base + 0x10) 4 v) s = .next { s with din := d }
          ∧ d.extractLsb' 0 32 = v.extractLsb' 0 32 ∧ d.extractLsb' 32 32 = s.din.extractLsb' 32 32)
      ∧ (∃ d : U64, hostAccess (.write (s.cfg.base + 0x14) 4 v) s = .next { s with din := d }
          ∧ d.extractLsb' 32 32 = v.extractLsb' 0 32 ∧ d.extractLsb' 0 32 = s.din.extractLsb' 0 32)

/-- Derived from 20_memory.md section 2 (R73, R76): every other access in the window reads 0, changes no register, and
records E_BUS. That widths are any number of bytes, and that an access which crosses the window's end is judged by its
start, is the model's reading (log 19, DEDUCED); that the returned 0 stands in `rdata` is the model's choice (log 5).
-/
def Obligations.IllegalAccessesRecordBusError : Prop :=
  ∀ (s : State) (offset bytes : Nat), offset < 0x40 →
    ((offset, bytes) ∉ [(0x00, 4), (0x08, 8), (0x08, 4), (0x0C, 4), (0x10, 8), (0x10, 4), (0x14, 4), (0x18, 8),
        (0x18, 4), (0x1C, 4), (0x20, 8), (0x20, 4), (0x24, 4)] →
      hostAccess (.read (s.cfg.base + offset) bytes) s = .next (recordError .bus { s with rdata := 0 }))
    ∧ ((offset, bytes) ∉ [(0x00, 4), (0x10, 8), (0x10, 4), (0x14, 4)] →
      ∀ v : U64, hostAccess (.write (s.cfg.base + offset) bytes v) s = .next (recordError .bus s))

/-- The model's choices for what the block does not have (log 10, 11; 93_implementation_defined.md B14): an access
outside the window is a fault, a fetch from the window is refused. Derived. -/
def Obligations.AccessesTheBlockDoesNotHaveStop : Prop :=
  ∀ (s : State) (addr bytes : Nat) (v : U64),
    ((addr < s.cfg.base ∨ s.cfg.base + 0x40 ≤ addr) →
      hostAccess (.read addr bytes) s = .fault (.outsideWindow addr)
        ∧ hostAccess (.write addr bytes v) s = .fault (.outsideWindow addr)
        ∧ hostAccess (.fetch addr) s = .fault (.outsideWindow addr))
    ∧ ((s.cfg.base ≤ addr ∧ addr < s.cfg.base + 0x40) →
      hostAccess (.fetch addr) s = .refused (.fetchFromWindow addr))

/-- Derived from 20_memory.md section 3 (R78): the four outcomes of presenting a command by a 32-bit write to CMD.
That the write carries the word in the low 32 bits of v is the model's reading (log 19, DEDUCED), and the count
latched with the command is the model's own (log 3). -/
def Obligations.CommandPresentation : Prop :=
  ∀ (s : State) (v : U64),
    let c := v.extractLsb' 0 32
    let write := hostAccess (.write s.cfg.base 4 v) s
    let latched := fun left => { s with pend := some ⟨c, s.din, left⟩ }
    (s.pend.isSome = true → write = .next (recordError .busy s))
      ∧ (s.pend = none → ∀ e, decode c = .error e → write = .next (recordError e s))
      ∧ (s.pend = none → ∀ i e, decode c = .ok i → acceptCheck i (latched 0) = some e →
          write = .next (recordError e s))
      ∧ (s.pend = none → ∀ i, decode c = .ok i → acceptCheck i (latched 0) = none →
          write = .next (latched (latencyOf i s)))

/-! ### The step -/

/-- Derived from 20_memory.md section 3 and 70_reset_and_hazards.md section 4: a valid, idle block whose next event is
a write of a command word to CMD. A failing check ends the command in this step with the same state its meaning gives;
a command of latency 1 runs in this step; a longer one is pending afterwards. -/
def Obligations.StepRunsDecodedCommand : Prop :=
  ∀ (s : State) (v : U64) (rest : List PortEvent) (i : Instr),
    validConfig s.cfg = true → s.pend = none → s.port = .access (.write s.cfg.base 4 v) :: rest →
    decode (v.extractLsb' 0 32) = .ok i →
      let accepted := fun left => { s with port := rest, pend := some ⟨v.extractLsb' 0 32, s.din, left⟩ }
      (acceptCheck i (accepted 1) ≠ none → step s = exec i (accepted 1))
        ∧ (acceptCheck i (accepted 1) = none → latencyOf i s = 1 → step s = exec i (accepted 1))
        ∧ (acceptCheck i (accepted 1) = none → 1 < latencyOf i s → step s = .next (accepted (latencyOf i s - 1)))

/-- Derived from 93_implementation_defined.md section 3 and the model's choice of how it refuses (log 12): a parameter
set that fails a check refuses every step, and the checks are K1, K2, K3 and K5 (K4 is the type of IMPL_ID). -/
def Obligations.InvalidConfigurationIsRefused : Prop :=
  ∀ s : State,
    let p := s.cfg
    let k1 := (popcount (readWord p.sfmtParity 0) + popcount (readWord p.sfmtParity 1)
      + popcount (readWord p.sfmtParity 2) + popcount (readWord p.sfmtParity 3)) % 2 = 1
    let k2 := p.tmtRescue ≠ #v[0, 0, 0, 0] ∧ p.tmtRescue ≠ #v[0x80000000, 0, 0, 0]
    let k3 := p.base % 0x40 = 0
    let k5 := ∀ l ∈ [p.lat.reg, p.lat.xsCert, p.lat.sfArm, p.lat.xs, p.lat.tmt, p.lat.sf, p.lat.sfRef, p.lat.erst],
      0 < l
    (step s = .refused .invalidConfiguration ↔ ¬(k1 ∧ k2 ∧ k3 ∧ k5))

/-- Derived from the same sections: with no access, the pending command's last step is its meaning, and an earlier
step only counts down. -/
def Obligations.StepCompletesPendingCommand : Prop :=
  ∀ (s : State) (p : Pend) (i : Instr),
    validConfig s.cfg = true → s.pend = some p → decode p.cmd = .ok i →
    (s.port = [] ∨ ∃ rest, s.port = .idle :: rest) →
      let s' := { s with port := s.port.tail }
      (p.left ≤ 1 → step s = exec i s')
        ∧ (1 < p.left → step s = .next { s' with pend := some { p with left := p.left - 1 } })

/-- The model's choice (log 4): how `withFetchWord` places one command where the next step takes it. Derived. -/
def Obligations.FetchWordIsTheNextCommand : Prop :=
  ∀ (s : State) (w : Nat) (i : Instr),
    validConfig (s.withFetchWord 32 w).cfg = true → decodeTableWord 32 w = some i →
      step (s.withFetchWord 32 w) =
        exec i { s.withFetchWord 32 w with port := s.port, pend := some ⟨BitVec.ofNat 32 w, s.din, 1⟩ }

/-- Derived from 70_reset_and_hazards.md sections 3 and 4 (completion): with no further access, a pending command is
over after as many steps as its latency has left. That it completes is R342; that one step is one cycle, which fixes the
number of steps, is the model's choice (log 3). -/
def Obligations.PendingCommandCompletes : Prop :=
  ∀ (s : State) (p : Pend) (n : Nat),
    validConfig s.cfg = true → s.pend = some p → s.port = List.replicate n .idle →
      (∃ t, Host.Core.run Sys2Proof.core (max 1 p.left) s = .next t ∧ t.pend = none)
        ∧ ∀ k, k < p.left → ∃ t, Host.Core.run Sys2Proof.core k s = .next t ∧ t.pend.isSome = true

/-- Derived from 20_memory.md section 3 (R80), 60_exceptions.md section 1 (R303) and 70_reset_and_hazards.md section 3
(R338): before its last step, a pending command shows none of its effects, whatever access arrives, and no access
disturbs it. That each step takes one from the count is the model's choice (log 3). -/
def Obligations.PendingCommandShowsNoEffect : Prop :=
  ∀ (s t : State) (p : Pend), s.pend = some p → 1 < p.left → s.port.head? ≠ some .reset → step s = .next t →
    sameEngine .xs s t ∧ sameEngine .sfmt s t ∧ sameEngine .tmt s t ∧ t.dout = s.dout ∧ t.certFixed = s.certFixed
      ∧ t.pend = some { p with left := p.left - 1 }

/-- Derived from 60_exceptions.md section 1 (R303): for every decoded command, a failing check leaves all but the
record (and PEND) as it was; and every command answers a next state. -/
def Obligations.EveryCommandAnswersNext : Prop :=
  ∀ (i : Instr) (s : State),
    (∃ t, exec i s = .next t) ∧ ∀ e, acceptCheck i s = some e → failsWith e i s

/-- Derived from 60_exceptions.md section 1 ("No error arises while a command executes"): the completion of an
accepted command records no error. -/
def Obligations.CompletionRecordsNoError : Prop :=
  ∀ (s t : State) (p : Pend), pendOk s → s.pend = some p → p.left ≤ 1 →
    (s.port = [] ∨ ∃ rest, s.port = .idle :: rest) → step s = .next t →
      t.pend = none ∧ ((t.err = s.err ∧ t.errcode = s.errcode) ∨ (p.cmd = 0x0000000E ∧ t.err = false ∧ t.errcode = 0))

/-- Derived from the command rules of 40_state_access.md to 43_tinymt32.md and from R39 (no command writes DIN): a command
touches no engine but its own, and never DIN, the parameters, the events to come or what the host last read; the last
three are the model's own fields (log 1, 4, 5). -/
def Obligations.CommandsTouchOnlyTheirEngine : Prop :=
  ∀ (i : Instr) (s t : State), exec i s = .next t →
    (∀ e, engineUsed i ≠ some e → sameEngine e s t)
      ∧ t.din = s.din ∧ t.cfg = s.cfg ∧ t.port = s.port ∧ t.rdata = s.rdata

/-- Derived from 10_state.md R37 and R45 and log 1: no step writes the parameters. -/
def Obligations.StepsKeepTheParameters : Prop :=
  ∀ s t : State, step s = .next t → t.cfg = s.cfg

/-! ### Reset (10_state.md section 5, 70_reset_and_hazards.md section 1) -/

/-- Derived from 10_state.md section 5 (R49) and 70_reset_and_hazards.md section 1 (R330): the value of every element
of state, and the constants (the parameters) unaffected by the reset event. That the events to come and what the host
last read are kept is the model's choice (log 4, 5). -/
def Obligations.ResetGivesStatedValues : Prop :=
  (∀ k, k < 16 → readWord State.reset.xsW k = 0) ∧ State.reset.xsP = 0
    ∧ (∀ k, k < 624 → readWord State.reset.sfW k = 0) ∧ State.reset.sfIdx.toNat = 624
    ∧ (∀ k, k < 4 → readWord State.reset.tmS k = 0)
    ∧ State.reset.armedXs = false ∧ State.reset.armedSf = false ∧ State.reset.armedTm = false
    ∧ State.reset.din = 0 ∧ State.reset.dout = 0
    ∧ busy State.reset = false ∧ State.reset.err = false ∧ State.reset.errcode = 0
    ∧ State.reset.certFixed = false ∧ State.reset.pend = none
    ∧ ∀ s : State, resetBlock s = { State.reset with cfg := s.cfg, port := s.port, rdata := s.rdata }

/-- Derived from 70_reset_and_hazards.md section 1: the reset event, in any state of a valid block. What the model's
own fields hold afterwards is log 4's and log 5's choice. -/
def Obligations.ResetEventAbandonsPending : Prop :=
  ∀ (s : State) (rest : List PortEvent), validConfig s.cfg = true → s.port = .reset :: rest →
    step s = .next { State.reset with cfg := s.cfg, port := rest, rdata := s.rdata }

/-- Derived from 70_reset_and_hazards.md section 1 (R332), for every parameter set (the parameters of `State.reset`
are log 1's): what NEXT, ADV, REFILL, CERT and ARM do right after reset. The last clause gives SFMT.CERT's words for the
default parity constants (general knowledge, log 1). -/
def Obligations.AfterResetAdvanceFailsSfmtAndTmtCertArm : Prop :=
  ∀ cfg : Params,
    let s := { State.reset with cfg := cfg }
    failsWith .notArmed .xsNext s ∧ failsWith .notArmed .xsAdv s ∧ failsWith .notArmed .sfmtNext s
      ∧ failsWith .notArmed .sfmtRefill s ∧ failsWith .notArmed .tmtNext s ∧ failsWith .notArmed .tmtAdv s
      ∧ failsWith .degenerate .xsCert s ∧ failsWith .degenerate .xsArm s ∧ failsWith .degenerate .sfmtArm s
      ∧ failsWith .degenerate .tmtArm s
      ∧ exec .tmtCert s = .next { s with tmS := cfg.tmtRescue, certFixed := true, armedTm := true }
      ∧ exec .sfmtCert s =
          .next { s with
            sfW := sfFix cfg.sfmtCertFix cfg.sfmtParity (Vector.replicate 624 0)
            certFixed := true
            armedSf := true }
      ∧ (cfg.sfmtParity = #v[0x00000001, 0x00000000, 0x00000000, 0x13c9e684] →
          exec .sfmtCert s =
            .next { s with sfW := writeWord (Vector.replicate 624 0) 0 1, certFixed := true, armedSf := true })

/-! ### Invariants of every step -/

/-- Derived from 10_state.md R41 and 60_exceptions.md R301: the error record stays consistent. -/
def Obligations.StepKeepsErrorRecordConsistent : Prop :=
  ∀ s t : State, errorRecordOk s → step s = .next t → errorRecordOk t

/-- Derived from 10_state.md R35: the cursor never leaves 0..624. -/
def Obligations.StepKeepsCursorInRange : Prop :=
  ∀ s t : State, cursorOk s → step s = .next t → cursorOk t

/-- Derived from 41_xorshift1024.md R172, 42_sfmt19937.md R212 and 43_tinymt32.md R249: no armed engine ever holds a
zero or degenerate state. -/
def Obligations.StepKeepsArmedEnginesNonzero : Prop :=
  ∀ s t : State, armedOk s → step s = .next t → armedOk t

/-- Derived from 20_memory.md section 3 and 60_exceptions.md section 1: what PEND holds has passed its checks, and
nothing that happens while it waits makes one of them fail. -/
def Obligations.StepKeepsPendingCommandAccepted : Prop :=
  ∀ s t : State, pendOk s → step s = .next t → pendOk t

/-- The reset state, with the default parameters of log 1 to 3, meets every invariant. -/
def Obligations.ResetIsGoodState : Prop := goodState State.reset

/-! ### Host software around the block (48_host_procedures.md; 00_scope.md R6) -/

/-- Derived from 48_host_procedures.md section 2: the default xorshift1024* seed (PRESUMED, log 20) never gives the
all-zero ring, so XS.CERT accepts it. -/
def Obligations.XsSeedNeverGivesZeroRing : Prop :=
  ∀ a1 a2 a3 : Int, (xs1024Seed a1 a2 a3).length = 16 ∧ ∃ w, w ∈ xs1024Seed a1 a2 a3 ∧ w ≠ 0
end

