-- ==== Sys2Proof/Laws/State.lean ====
section
/-! SUPPORT. One lemma per field per named update of the state, so that no later proof unfolds an update. -/

namespace Sys2Proof.Machine

/-! ### emptyPend -/

@[simp] theorem emptyPend_xsW (s : State) : (emptyPend s).xsW = s.xsW := rfl
@[simp] theorem emptyPend_xsP (s : State) : (emptyPend s).xsP = s.xsP := rfl
@[simp] theorem emptyPend_sfW (s : State) : (emptyPend s).sfW = s.sfW := rfl
@[simp] theorem emptyPend_sfIdx (s : State) : (emptyPend s).sfIdx = s.sfIdx := rfl
@[simp] theorem emptyPend_tmS (s : State) : (emptyPend s).tmS = s.tmS := rfl
@[simp] theorem emptyPend_armedXs (s : State) : (emptyPend s).armedXs = s.armedXs := rfl
@[simp] theorem emptyPend_armedSf (s : State) : (emptyPend s).armedSf = s.armedSf := rfl
@[simp] theorem emptyPend_armedTm (s : State) : (emptyPend s).armedTm = s.armedTm := rfl
@[simp] theorem emptyPend_din (s : State) : (emptyPend s).din = s.din := rfl
@[simp] theorem emptyPend_dout (s : State) : (emptyPend s).dout = s.dout := rfl
@[simp] theorem emptyPend_err (s : State) : (emptyPend s).err = s.err := rfl
@[simp] theorem emptyPend_errcode (s : State) : (emptyPend s).errcode = s.errcode := rfl
@[simp] theorem emptyPend_certFixed (s : State) : (emptyPend s).certFixed = s.certFixed := rfl
@[simp] theorem emptyPend_pend (s : State) : (emptyPend s).pend = none := rfl
@[simp] theorem emptyPend_cfg (s : State) : (emptyPend s).cfg = s.cfg := rfl
@[simp] theorem emptyPend_port (s : State) : (emptyPend s).port = s.port := rfl
@[simp] theorem emptyPend_rdata (s : State) : (emptyPend s).rdata = s.rdata := rfl

/-! ### clearError -/

@[simp] theorem clearError_xsW (s : State) : (clearError s).xsW = s.xsW := rfl
@[simp] theorem clearError_xsP (s : State) : (clearError s).xsP = s.xsP := rfl
@[simp] theorem clearError_sfW (s : State) : (clearError s).sfW = s.sfW := rfl
@[simp] theorem clearError_sfIdx (s : State) : (clearError s).sfIdx = s.sfIdx := rfl
@[simp] theorem clearError_tmS (s : State) : (clearError s).tmS = s.tmS := rfl
@[simp] theorem clearError_armedXs (s : State) : (clearError s).armedXs = s.armedXs := rfl
@[simp] theorem clearError_armedSf (s : State) : (clearError s).armedSf = s.armedSf := rfl
@[simp] theorem clearError_armedTm (s : State) : (clearError s).armedTm = s.armedTm := rfl
@[simp] theorem clearError_din (s : State) : (clearError s).din = s.din := rfl
@[simp] theorem clearError_dout (s : State) : (clearError s).dout = s.dout := rfl
@[simp] theorem clearError_err (s : State) : (clearError s).err = false := rfl
@[simp] theorem clearError_errcode (s : State) : (clearError s).errcode = 0 := rfl
@[simp] theorem clearError_certFixed (s : State) : (clearError s).certFixed = s.certFixed := rfl
@[simp] theorem clearError_pend (s : State) : (clearError s).pend = s.pend := rfl
@[simp] theorem clearError_cfg (s : State) : (clearError s).cfg = s.cfg := rfl
@[simp] theorem clearError_port (s : State) : (clearError s).port = s.port := rfl
@[simp] theorem clearError_rdata (s : State) : (clearError s).rdata = s.rdata := rfl

/-! ### latchPend -/

@[simp] theorem latchPend_xsW (c : U32) (n : Nat) (s : State) : (latchPend c n s).xsW = s.xsW := rfl
@[simp] theorem latchPend_xsP (c : U32) (n : Nat) (s : State) : (latchPend c n s).xsP = s.xsP := rfl
@[simp] theorem latchPend_sfW (c : U32) (n : Nat) (s : State) : (latchPend c n s).sfW = s.sfW := rfl
@[simp] theorem latchPend_sfIdx (c : U32) (n : Nat) (s : State) : (latchPend c n s).sfIdx = s.sfIdx := rfl
@[simp] theorem latchPend_tmS (c : U32) (n : Nat) (s : State) : (latchPend c n s).tmS = s.tmS := rfl
@[simp] theorem latchPend_armedXs (c : U32) (n : Nat) (s : State) : (latchPend c n s).armedXs = s.armedXs := rfl
@[simp] theorem latchPend_armedSf (c : U32) (n : Nat) (s : State) : (latchPend c n s).armedSf = s.armedSf := rfl
@[simp] theorem latchPend_armedTm (c : U32) (n : Nat) (s : State) : (latchPend c n s).armedTm = s.armedTm := rfl
@[simp] theorem latchPend_din (c : U32) (n : Nat) (s : State) : (latchPend c n s).din = s.din := rfl
@[simp] theorem latchPend_dout (c : U32) (n : Nat) (s : State) : (latchPend c n s).dout = s.dout := rfl
@[simp] theorem latchPend_err (c : U32) (n : Nat) (s : State) : (latchPend c n s).err = s.err := rfl
@[simp] theorem latchPend_errcode (c : U32) (n : Nat) (s : State) : (latchPend c n s).errcode = s.errcode := rfl
@[simp] theorem latchPend_certFixed (c : U32) (n : Nat) (s : State) : (latchPend c n s).certFixed = s.certFixed := rfl
@[simp] theorem latchPend_pend (c : U32) (n : Nat) (s : State) : (latchPend c n s).pend = some ⟨c, s.din, n⟩ := rfl
@[simp] theorem latchPend_cfg (c : U32) (n : Nat) (s : State) : (latchPend c n s).cfg = s.cfg := rfl
@[simp] theorem latchPend_port (c : U32) (n : Nat) (s : State) : (latchPend c n s).port = s.port := rfl
@[simp] theorem latchPend_rdata (c : U32) (n : Nat) (s : State) : (latchPend c n s).rdata = s.rdata := rfl

/-! ### advanceRing -/

@[simp] theorem advanceRing_xsW (s : State) : (advanceRing s).xsW = (xsStep s.xsW s.xsP).1 := rfl
@[simp] theorem advanceRing_xsP (s : State) : (advanceRing s).xsP = (xsStep s.xsW s.xsP).2.1 := rfl
@[simp] theorem advanceRing_sfW (s : State) : (advanceRing s).sfW = s.sfW := rfl
@[simp] theorem advanceRing_sfIdx (s : State) : (advanceRing s).sfIdx = s.sfIdx := rfl
@[simp] theorem advanceRing_tmS (s : State) : (advanceRing s).tmS = s.tmS := rfl
@[simp] theorem advanceRing_armedXs (s : State) : (advanceRing s).armedXs = s.armedXs := rfl
@[simp] theorem advanceRing_armedSf (s : State) : (advanceRing s).armedSf = s.armedSf := rfl
@[simp] theorem advanceRing_armedTm (s : State) : (advanceRing s).armedTm = s.armedTm := rfl
@[simp] theorem advanceRing_din (s : State) : (advanceRing s).din = s.din := rfl
@[simp] theorem advanceRing_dout (s : State) : (advanceRing s).dout = s.dout := rfl
@[simp] theorem advanceRing_err (s : State) : (advanceRing s).err = s.err := rfl
@[simp] theorem advanceRing_errcode (s : State) : (advanceRing s).errcode = s.errcode := rfl
@[simp] theorem advanceRing_certFixed (s : State) : (advanceRing s).certFixed = s.certFixed := rfl
@[simp] theorem advanceRing_pend (s : State) : (advanceRing s).pend = s.pend := rfl
@[simp] theorem advanceRing_cfg (s : State) : (advanceRing s).cfg = s.cfg := rfl
@[simp] theorem advanceRing_port (s : State) : (advanceRing s).port = s.port := rfl
@[simp] theorem advanceRing_rdata (s : State) : (advanceRing s).rdata = s.rdata := rfl

/-! ### refillBuffer -/

@[simp] theorem refillBuffer_xsW (s : State) : (refillBuffer s).xsW = s.xsW := rfl
@[simp] theorem refillBuffer_xsP (s : State) : (refillBuffer s).xsP = s.xsP := rfl
@[simp] theorem refillBuffer_sfW (s : State) : (refillBuffer s).sfW = sfRefill s.cfg.sfmtMsk s.sfW := rfl
@[simp] theorem refillBuffer_sfIdx (s : State) : (refillBuffer s).sfIdx = 0 := rfl
@[simp] theorem refillBuffer_tmS (s : State) : (refillBuffer s).tmS = s.tmS := rfl
@[simp] theorem refillBuffer_armedXs (s : State) : (refillBuffer s).armedXs = s.armedXs := rfl
@[simp] theorem refillBuffer_armedSf (s : State) : (refillBuffer s).armedSf = s.armedSf := rfl
@[simp] theorem refillBuffer_armedTm (s : State) : (refillBuffer s).armedTm = s.armedTm := rfl
@[simp] theorem refillBuffer_din (s : State) : (refillBuffer s).din = s.din := rfl
@[simp] theorem refillBuffer_dout (s : State) : (refillBuffer s).dout = s.dout := rfl
@[simp] theorem refillBuffer_err (s : State) : (refillBuffer s).err = s.err := rfl
@[simp] theorem refillBuffer_errcode (s : State) : (refillBuffer s).errcode = s.errcode := rfl
@[simp] theorem refillBuffer_certFixed (s : State) : (refillBuffer s).certFixed = s.certFixed := rfl
@[simp] theorem refillBuffer_pend (s : State) : (refillBuffer s).pend = s.pend := rfl
@[simp] theorem refillBuffer_cfg (s : State) : (refillBuffer s).cfg = s.cfg := rfl
@[simp] theorem refillBuffer_port (s : State) : (refillBuffer s).port = s.port := rfl
@[simp] theorem refillBuffer_rdata (s : State) : (refillBuffer s).rdata = s.rdata := rfl

/-! ### outputWord -/

@[simp] theorem outputWord_xsW (s : State) : (outputWord s).xsW = s.xsW := rfl
@[simp] theorem outputWord_xsP (s : State) : (outputWord s).xsP = s.xsP := rfl
@[simp] theorem outputWord_sfW (s : State) : (outputWord s).sfW = s.sfW := rfl
@[simp] theorem outputWord_sfIdx (s : State) : (outputWord s).sfIdx = s.sfIdx + 1 := rfl
@[simp] theorem outputWord_tmS (s : State) : (outputWord s).tmS = s.tmS := rfl
@[simp] theorem outputWord_armedXs (s : State) : (outputWord s).armedXs = s.armedXs := rfl
@[simp] theorem outputWord_armedSf (s : State) : (outputWord s).armedSf = s.armedSf := rfl
@[simp] theorem outputWord_armedTm (s : State) : (outputWord s).armedTm = s.armedTm := rfl
@[simp] theorem outputWord_din (s : State) : (outputWord s).din = s.din := rfl
@[simp] theorem outputWord_dout (s : State) : (outputWord s).dout = zext64 (readWord s.sfW s.sfIdx.toNat) := rfl
@[simp] theorem outputWord_err (s : State) : (outputWord s).err = s.err := rfl
@[simp] theorem outputWord_errcode (s : State) : (outputWord s).errcode = s.errcode := rfl
@[simp] theorem outputWord_certFixed (s : State) : (outputWord s).certFixed = s.certFixed := rfl
@[simp] theorem outputWord_pend (s : State) : (outputWord s).pend = s.pend := rfl
@[simp] theorem outputWord_cfg (s : State) : (outputWord s).cfg = s.cfg := rfl
@[simp] theorem outputWord_port (s : State) : (outputWord s).port = s.port := rfl
@[simp] theorem outputWord_rdata (s : State) : (outputWord s).rdata = s.rdata := rfl

/-! ### advanceTiny -/

@[simp] theorem advanceTiny_xsW (s : State) : (advanceTiny s).xsW = s.xsW := rfl
@[simp] theorem advanceTiny_xsP (s : State) : (advanceTiny s).xsP = s.xsP := rfl
@[simp] theorem advanceTiny_sfW (s : State) : (advanceTiny s).sfW = s.sfW := rfl
@[simp] theorem advanceTiny_sfIdx (s : State) : (advanceTiny s).sfIdx = s.sfIdx := rfl
@[simp] theorem advanceTiny_tmS (s : State) : (advanceTiny s).tmS = tmStep s.cfg.tmtMat1 s.cfg.tmtMat2 s.tmS := rfl
@[simp] theorem advanceTiny_armedXs (s : State) : (advanceTiny s).armedXs = s.armedXs := rfl
@[simp] theorem advanceTiny_armedSf (s : State) : (advanceTiny s).armedSf = s.armedSf := rfl
@[simp] theorem advanceTiny_armedTm (s : State) : (advanceTiny s).armedTm = s.armedTm := rfl
@[simp] theorem advanceTiny_din (s : State) : (advanceTiny s).din = s.din := rfl
@[simp] theorem advanceTiny_dout (s : State) : (advanceTiny s).dout = s.dout := rfl
@[simp] theorem advanceTiny_err (s : State) : (advanceTiny s).err = s.err := rfl
@[simp] theorem advanceTiny_errcode (s : State) : (advanceTiny s).errcode = s.errcode := rfl
@[simp] theorem advanceTiny_certFixed (s : State) : (advanceTiny s).certFixed = s.certFixed := rfl
@[simp] theorem advanceTiny_pend (s : State) : (advanceTiny s).pend = s.pend := rfl
@[simp] theorem advanceTiny_cfg (s : State) : (advanceTiny s).cfg = s.cfg := rfl
@[simp] theorem advanceTiny_port (s : State) : (advanceTiny s).port = s.port := rfl
@[simp] theorem advanceTiny_rdata (s : State) : (advanceTiny s).rdata = s.rdata := rfl

/-! ### recordError -/

@[simp] theorem recordError_xsW (e : ErrCode) (s : State) : (recordError e s).xsW = s.xsW := by
  unfold recordError; split <;> rfl
@[simp] theorem recordError_xsP (e : ErrCode) (s : State) : (recordError e s).xsP = s.xsP := by
  unfold recordError; split <;> rfl
@[simp] theorem recordError_sfW (e : ErrCode) (s : State) : (recordError e s).sfW = s.sfW := by
  unfold recordError; split <;> rfl
@[simp] theorem recordError_sfIdx (e : ErrCode) (s : State) : (recordError e s).sfIdx = s.sfIdx := by
  unfold recordError; split <;> rfl
@[simp] theorem recordError_tmS (e : ErrCode) (s : State) : (recordError e s).tmS = s.tmS := by
  unfold recordError; split <;> rfl
@[simp] theorem recordError_armedXs (e : ErrCode) (s : State) : (recordError e s).armedXs = s.armedXs := by
  unfold recordError; split <;> rfl
@[simp] theorem recordError_armedSf (e : ErrCode) (s : State) : (recordError e s).armedSf = s.armedSf := by
  unfold recordError; split <;> rfl
@[simp] theorem recordError_armedTm (e : ErrCode) (s : State) : (recordError e s).armedTm = s.armedTm := by
  unfold recordError; split <;> rfl
@[simp] theorem recordError_din (e : ErrCode) (s : State) : (recordError e s).din = s.din := by
  unfold recordError; split <;> rfl
@[simp] theorem recordError_dout (e : ErrCode) (s : State) : (recordError e s).dout = s.dout := by
  unfold recordError; split <;> rfl
@[simp] theorem recordError_err (e : ErrCode) (s : State) : (recordError e s).err = true := by
  unfold recordError; split <;> simp_all
@[simp] theorem recordError_errcode (e : ErrCode) (s : State) :
    (recordError e s).errcode = if s.err then s.errcode else errNumber e := by
  unfold recordError; split <;> rfl
@[simp] theorem recordError_certFixed (e : ErrCode) (s : State) : (recordError e s).certFixed = s.certFixed := by
  unfold recordError; split <;> rfl
@[simp] theorem recordError_pend (e : ErrCode) (s : State) : (recordError e s).pend = s.pend := by
  unfold recordError; split <;> rfl
@[simp] theorem recordError_cfg (e : ErrCode) (s : State) : (recordError e s).cfg = s.cfg := by
  unfold recordError; split <;> rfl
@[simp] theorem recordError_port (e : ErrCode) (s : State) : (recordError e s).port = s.port := by
  unfold recordError; split <;> rfl
@[simp] theorem recordError_rdata (e : ErrCode) (s : State) : (recordError e s).rdata = s.rdata := by
  unfold recordError; split <;> rfl

/-! ### resetBlock -/

@[simp] theorem resetBlock_xsW (s : State) : (resetBlock s).xsW = State.reset.xsW := rfl
@[simp] theorem resetBlock_xsP (s : State) : (resetBlock s).xsP = State.reset.xsP := rfl
@[simp] theorem resetBlock_sfW (s : State) : (resetBlock s).sfW = State.reset.sfW := rfl
@[simp] theorem resetBlock_sfIdx (s : State) : (resetBlock s).sfIdx = State.reset.sfIdx := rfl
@[simp] theorem resetBlock_tmS (s : State) : (resetBlock s).tmS = State.reset.tmS := rfl
@[simp] theorem resetBlock_armedXs (s : State) : (resetBlock s).armedXs = State.reset.armedXs := rfl
@[simp] theorem resetBlock_armedSf (s : State) : (resetBlock s).armedSf = State.reset.armedSf := rfl
@[simp] theorem resetBlock_armedTm (s : State) : (resetBlock s).armedTm = State.reset.armedTm := rfl
@[simp] theorem resetBlock_din (s : State) : (resetBlock s).din = State.reset.din := rfl
@[simp] theorem resetBlock_dout (s : State) : (resetBlock s).dout = State.reset.dout := rfl
@[simp] theorem resetBlock_err (s : State) : (resetBlock s).err = State.reset.err := rfl
@[simp] theorem resetBlock_errcode (s : State) : (resetBlock s).errcode = State.reset.errcode := rfl
@[simp] theorem resetBlock_certFixed (s : State) : (resetBlock s).certFixed = State.reset.certFixed := rfl
@[simp] theorem resetBlock_pend (s : State) : (resetBlock s).pend = State.reset.pend := rfl
@[simp] theorem resetBlock_cfg (s : State) : (resetBlock s).cfg = s.cfg := rfl
@[simp] theorem resetBlock_port (s : State) : (resetBlock s).port = s.port := rfl
@[simp] theorem resetBlock_rdata (s : State) : (resetBlock s).rdata = s.rdata := rfl

end Sys2Proof.Machine
end

