-- ==== Sys2Proof/Laws/Commands.lean ====
section
/-! SUPPORT. What a command, an access and a step can do, said once: every command is its acceptance check and its
effect, and a step that answers a next state took one of the listed ways. -/

namespace Sys2Proof.Machine

/-- The effect of each command once its check has passed, before PEND is emptied. -/
def effectOf (i : Instr) (s : State) : State :=
  match i with
  | .nop => s
  | .clrerr => clearError s
  | .xsLdw k => { s with xsW := writeWord s.xsW k.toNat (operandDin s), armedXs := false }
  | .sfmtLdw k => { s with sfW := writeWord s.sfW k.toNat (trunc32 (operandDin s)), armedSf := false }
  | .tmtLdw k => { s with tmS := writeWord s.tmS k.toNat (trunc32 (operandDin s)), armedTm := false }
  | .xsRdw k => { s with dout := readWord s.xsW k.toNat }
  | .sfmtRdw k => { s with dout := zext64 (readWord s.sfW k.toNat) }
  | .tmtRdw k => { s with dout := zext64 (tmtWord k.toNat s) }
  | .xsLdp => { s with xsP := (operandDin s).extractLsb' 0 4 }
  | .sfmtLdp => { s with sfIdx := (operandDin s).extractLsb' 0 10 }
  | .xsRdp => { s with dout := zext64 s.xsP }
  | .sfmtRdp => { s with dout := zext64 s.sfIdx }
  | .xsErst => { s with xsW := Vector.replicate 16 0, xsP := 0, armedXs := false }
  | .sfmtErst => { s with sfW := Vector.replicate 624 0, sfIdx := 624, armedSf := false }
  | .tmtErst => { s with tmS := Vector.replicate 4 0, armedTm := false }
  | .xsNext => { advanceRing s with dout := xsOut (xsStep s.xsW s.xsP).2.2 }
  | .xsAdv => advanceRing s
  | .xsCert => { s with armedXs := true, certFixed := false }
  | .xsArm => { s with armedXs := true }
  | .sfmtNext => outputWord (if s.sfIdx = 624 then refillBuffer s else s)
  | .sfmtRefill => refillBuffer s
  | .sfmtCert =>
    if sfParity s.cfg.sfmtParity s.sfW = 1 then { s with armedSf := true, certFixed := false }
    else { s with sfW := sfFix s.cfg.sfmtCertFix s.cfg.sfmtParity s.sfW, armedSf := true, certFixed := true }
  | .sfmtArm => { s with armedSf := true }
  | .tmtNext => { advanceTiny s with dout := zext64 (tmTemper s.cfg.tmtTmat (advanceTiny s).tmS) }
  | .tmtAdv => advanceTiny s
  | .tmtCert =>
    { s with
      tmS := (tmCertify s.cfg.tmtRescue s.tmS).1
      certFixed := (tmCertify s.cfg.tmtRescue s.tmS).2
      armedTm := true }
  | .tmtArm => { s with armedTm := true }

/-- Every command is its check and its effect. -/
theorem exec_eq_runCommand (i : Instr) (s : State) : exec i s = runCommand (acceptCheck i s) (effectOf i) s := by
  cases i <;> rfl

theorem runCommand_of_error {e : ErrCode} (f : State → State) (s : State) :
    runCommand (some e) f s = .next (recordError e (emptyPend s)) := rfl

theorem runCommand_of_pass (f : State → State) (s : State) : runCommand none f s = .next (emptyPend (f s)) := rfl

theorem exec_of_error {i : Instr} {s : State} {e : ErrCode} (h : acceptCheck i s = some e) :
    exec i s = .next (recordError e (emptyPend s)) := by
  rw [exec_eq_runCommand, h, runCommand_of_error]

theorem exec_of_pass {i : Instr} {s : State} (h : acceptCheck i s = none) :
    exec i s = .next (emptyPend (effectOf i s)) := by
  rw [exec_eq_runCommand, h, runCommand_of_pass]

/-- Everything a command can do. -/
theorem exec_cases {i : Instr} {s t : State} (h : exec i s = .next t) :
    (∃ e, acceptCheck i s = some e ∧ t = recordError e (emptyPend s))
      ∨ (acceptCheck i s = none ∧ t = emptyPend (effectOf i s)) := by
  cases hc : acceptCheck i s with
  | some e =>
    rw [exec_of_error hc] at h
    exact .inl ⟨e, rfl, (Host.Outcome.next.inj h).symm⟩
  | none =>
    rw [exec_of_pass hc] at h
    exact .inr ⟨rfl, (Host.Outcome.next.inj h).symm⟩

/-- Everything the presenting of a command can do. -/
theorem presentCommand_cases (c : U32) (s : State) :
    (busy s = true ∧ presentCommand c s = recordError .busy s)
      ∨ (busy s = false ∧ ∃ e, decode c = .error e ∧ presentCommand c s = recordError e s)
      ∨ (busy s = false ∧ ∃ i e, decode c = .ok i ∧ acceptCheck i (latchPend c 0 s) = some e
          ∧ presentCommand c s = recordError e s)
      ∨ (busy s = false ∧ ∃ i, decode c = .ok i ∧ acceptCheck i (latchPend c 0 s) = none
          ∧ presentCommand c s = latchPend c (latencyOf i s) s) := by
  unfold presentCommand
  cases hb : busy s with
  | true => simp
  | false =>
    cases hd : decode c with
    | error e => simp
    | ok i =>
      cases ha : acceptCheck i (latchPend c 0 s) with
      | some e =>
        refine .inr (.inr (.inl ⟨rfl, i, e, rfl, ha, ?_⟩))
        simp [ha]
      | none =>
        refine .inr (.inr (.inr ⟨rfl, i, rfl, ha, ?_⟩))
        simp [ha]

/-- Everything a write access can do. -/
theorem writeAccess_cases (offset bytes : Nat) (v : U64) (s : State) :
    (offset = 0 ∧ bytes = 4 ∧ writeAccess offset bytes v s = presentCommand (trunc32 v) s)
      ∨ (∃ d, writeAccess offset bytes v s = { s with din := d })
      ∨ writeAccess offset bytes v s = recordError .bus s := by
  unfold writeAccess writeWindow
  split
  · rename_i t ht
    split at ht
    · exact .inl ⟨rfl, rfl, (Option.some.inj ht).symm⟩
    · exact .inr (.inl ⟨_, (Option.some.inj ht).symm⟩)
    · exact .inr (.inl ⟨_, (Option.some.inj ht).symm⟩)
    · exact .inr (.inl ⟨_, (Option.some.inj ht).symm⟩)
    · cases ht
  · exact .inr (.inr rfl)

/-- Everything a read access can do. -/
theorem readAccess_cases (offset bytes : Nat) (s : State) :
    ∃ v, readAccess offset bytes s = { s with rdata := v }
      ∨ readAccess offset bytes s = recordError .bus { s with rdata := v } := by
  unfold readAccess
  split
  · exact ⟨_, .inl rfl⟩
  · exact ⟨_, .inr rfl⟩

/-- Everything the end of a step can do. -/
theorem endOfStep_cases {s t : State} (h : endOfStep s = .next t) :
    (s.pend = none ∧ t = s)
      ∨ (∃ p, s.pend = some p ∧ 1 < p.left ∧ t = { s with pend := some { p with left := p.left - 1 } })
      ∨ (∃ p i, s.pend = some p ∧ p.left ≤ 1 ∧ decode p.cmd = .ok i ∧ exec i s = .next t)
      ∨ (∃ p e, s.pend = some p ∧ p.left ≤ 1 ∧ decode p.cmd = .error e ∧ t = recordError e (emptyPend s)) := by
  unfold endOfStep at h
  cases hp : s.pend with
  | none =>
    rw [hp] at h
    exact .inl ⟨rfl, (Host.Outcome.next.inj h).symm⟩
  | some p =>
    rw [hp] at h
    by_cases hl : p.left ≤ 1
    · simp only [hl, if_true] at h
      unfold completePending at h
      cases hd : decode p.cmd with
      | ok i =>
        rw [hd] at h
        exact .inr (.inr (.inl ⟨p, i, rfl, hl, hd, h⟩))
      | error e =>
        rw [hd] at h
        exact .inr (.inr (.inr ⟨p, e, rfl, hl, hd, (Host.Outcome.next.inj h).symm⟩))
    · simp only [hl, if_false] at h
      exact .inr (.inl ⟨p, rfl, Nat.lt_of_not_le hl, (Host.Outcome.next.inj h).symm⟩)

/-- Everything a host access can do, where it answers a next state. -/
theorem hostAccess_cases {a : Access} {s t : State} (h : hostAccess a s = .next t) :
    (∃ addr bytes, a = .read addr bytes ∧ inWindow s.cfg addr = true
        ∧ t = readAccess (addr - s.cfg.base) bytes s)
      ∨ (∃ addr bytes v, a = .write addr bytes v ∧ inWindow s.cfg addr = true
        ∧ t = writeAccess (addr - s.cfg.base) bytes v s) := by
  unfold hostAccess at h
  cases a with
  | read addr bytes =>
    simp only at h
    split at h
    · rename_i hw
      exact .inl ⟨addr, bytes, rfl, hw, (Host.Outcome.next.inj h).symm⟩
    · cases h
  | write addr bytes v =>
    simp only at h
    split at h
    · rename_i hw
      exact .inr ⟨addr, bytes, v, rfl, hw, (Host.Outcome.next.inj h).symm⟩
    · cases h
  | fetch addr =>
    simp only at h
    split at h <;> cases h

/-- Everything a step can do, where it answers a next state. -/
theorem step_cases {s t : State} (h : step s = .next t) :
    validConfig s.cfg = true
      ∧ ((s.port = [] ∧ endOfStep s = .next t)
        ∨ (∃ rest, s.port = .idle :: rest ∧ endOfStep { s with port := rest } = .next t)
        ∨ (∃ rest, s.port = .reset :: rest ∧ t = resetBlock { s with port := rest })
        ∨ (∃ a rest u, s.port = .access a :: rest ∧ hostAccess a { s with port := rest } = .next u
            ∧ endOfStep u = .next t)) := by
  unfold step blockStep at h
  split at h
  case isFalse => cases h
  case isTrue hv =>
    refine ⟨hv, ?_⟩
    cases hp : s.port with
    | nil =>
      rw [hp] at h
      exact .inl ⟨rfl, h⟩
    | cons ev rest =>
      rw [hp] at h
      cases ev with
      | idle => exact .inr (.inl ⟨rest, rfl, h⟩)
      | reset => exact .inr (.inr (.inl ⟨rest, rfl, (Host.Outcome.next.inj h).symm⟩))
      | access a =>
        refine .inr (.inr (.inr ⟨a, rest, ?_⟩))
        simp only [portEvent, accessThenEnd] at h
        cases ha : hostAccess a { s with port := rest } with
        | next u =>
          rw [ha] at h
          exact ⟨u, rfl, rfl, h⟩
        | fault f => rw [ha] at h; cases h
        | refused r => rw [ha] at h; cases h

end Sys2Proof.Machine
end

