-- ==== Sys2Proof/Laws/Words.lean ====
section
/-! SUPPORT. The laws of indexed words: a read after a write, banks of zeros, and banks with the same words. -/

namespace Sys2Proof.Machine

variable {w n : Nat}

theorem readWord_of_lt (bank : Vector (BitVec w) n) {k : Nat} (h : k < n) : readWord bank k = bank[k] := by
  simp [readWord, h]

theorem readWord_of_le (bank : Vector (BitVec w) n) {k : Nat} (h : n ≤ k) : readWord bank k = 0#w := by
  simp [readWord, Nat.not_lt.mpr h]

theorem readWord_writeWord_same (bank : Vector (BitVec w) n) {k : Nat} (h : k < n) (v : BitVec w) :
    readWord (writeWord bank k v) k = v := by
  simp [readWord, writeWord, h]

theorem readWord_writeWord_other (bank : Vector (BitVec w) n) {j k : Nat} (h : j ≠ k) (v : BitVec w) :
    readWord (writeWord bank j v) k = readWord bank k := by
  unfold readWord writeWord
  split
  · simp [h]
  · rfl

theorem readWord_writeWord (bank : Vector (BitVec w) n) (j k : Nat) (v : BitVec w) :
    readWord (writeWord bank j v) k = if j = k ∧ k < n then v else readWord bank k := by
  by_cases h : j = k
  · subst h
    by_cases hj : j < n
    · simp [readWord_writeWord_same bank hj, hj]
    · simp [hj, readWord_of_le _ (Nat.not_lt.mp hj)]
  · simp [h, readWord_writeWord_other bank h]

@[simp] theorem readWord_replicate_zero (k : Nat) : readWord (Vector.replicate n 0#w) k = 0#w := by
  unfold readWord
  split <;> simp

/-- Two banks with the same words are equal. -/
theorem bank_ext {a b : Vector (BitVec w) n} (h : ∀ k, k < n → readWord a k = readWord b k) : a = b := by
  apply Vector.ext
  intro k hk
  simpa [readWord, hk] using h k hk

/-- A bank is all zero exactly when each of its words is 0. -/
theorem allZero_iff (bank : Vector (BitVec w) n) : allZero bank = true ↔ ∀ k, k < n → readWord bank k = 0#w := by
  unfold allZero
  rw [List.all_eq_true]
  constructor
  · intro h k hk
    simpa [readWord, hk] using h bank[k] (by simp)
  · intro h v hv
    obtain ⟨k, hk, rfl⟩ := List.getElem_of_mem hv
    simp only [Vector.length_toList] at hk
    simpa [readWord, hk] using h k hk

theorem allZero_eq_false_iff (bank : Vector (BitVec w) n) :
    allZero bank = false ↔ ∃ k, k < n ∧ readWord bank k ≠ 0 := by
  rw [← Bool.not_eq_true, allZero_iff]
  simp

end Sys2Proof.Machine
end

