-- ==== Sys2Proof/Laws/Engines.lean ====
section
/-! SUPPORT. The small laws of the engine functions: lanes after a lane is written, the refill loop unfolded, and a
TinyMT32 step word by word. -/

namespace Sys2Proof.Machine

/-! ### xorshift1024* -/

theorem readWord_xsStep (ring : Vector U64 16) (p : BitVec 4) (k : Nat) :
    readWord (xsStep ring p).1 k =
      if (p + 1).toNat = k then xsNewWord (readWord ring p.toNat) (readWord ring (p + 1).toNat)
      else readWord ring k := by
  have hq : (p + 1).toNat < 16 := (p + 1).isLt
  unfold xsStep
  dsimp only
  rw [readWord_writeWord]
  by_cases h : (p + 1).toNat = k
  · rw [if_pos ⟨h, h ▸ hq⟩, if_pos h]
  · rw [if_neg (fun c => h c.1), if_neg h]

@[simp] theorem xsStep_pointer (ring : Vector U64 16) (p : BitVec 4) : (xsStep ring p).2.1 = p + 1 := rfl

@[simp] theorem xsStep_word (ring : Vector U64 16) (p : BitVec 4) :
    (xsStep ring p).2.2 = xsNewWord (readWord ring p.toNat) (readWord ring (p + 1).toNat) := rfl

/-! ### SFMT-19937 -/

theorem readWord_writeLane (words : Vector U32 624) (j k : Nat) (x : U128) (h : k < 624) :
    readWord (writeLane words j x) k = if k / 4 = j then subWord x (k % 4) else readWord words k := by
  unfold writeLane
  simp only [readWord_writeWord, h, and_true]
  by_cases hj : k / 4 = j
  · have hm : k = 4 * j + k % 4 := by omega
    have h4 : k % 4 < 4 := Nat.mod_lt _ (by decide)
    rw [if_pos hj]
    generalize k % 4 = m at *
    subst hm
    interval_cases m <;> simp
  · rw [if_neg hj]
    repeat rw [if_neg (by omega)]

theorem sfRefill_eq_foldl (msk : Vector U32 4) (words : Vector U32 624) :
    sfRefill msk words = (List.range 156).foldl (sfRefillLane msk) words := by
  unfold sfRefill; rfl

/-! ### TinyMT32 -/

theorem readWord_tmStep_zero (mat1 mat2 : U32) (st : Vector U32 4) :
    readWord (tmStep mat1 mat2 st) 0 = readWord st 1 := rfl

end Sys2Proof.Machine
end

