-- ==== Sys2Proof/Laws/Host.lean ====
section
/-! SUPPORT. What the host bus operations do on an idle block, and how sequences of them compose (30_encoding.md R113,
R114; 48_host_procedures.md R282). -/

namespace Sys2Proof.Machine

/-- Keeping the reads does not change where a sequence of operations leads. -/
theorem runHostReads_state (fuel : Nat) (ops : List HostOp) (s : State) :
    (runHostReads fuel ops s).map Prod.snd = runHostOps fuel ops s := by
  induction ops generalizing s with
  | nil => rfl
  | cons op rest ih =>
    simp only [runHostReads, runHostOps]
    cases runHostOp fuel op s with
    | none => rfl
    | some t =>
      simp only [← ih t]
      cases runHostReads fuel rest t <;> rfl

/-- Two sequences, one after the other: the reads in order. -/
theorem runHostReads_append (fuel : Nat) (first second : List HostOp) (s : State) :
    runHostReads fuel (first ++ second) s =
      (runHostReads fuel first s).bind
        (fun p => (runHostReads fuel second p.2).map (fun q => (p.1 ++ q.1, q.2))) := by
  induction first generalizing s with
  | nil => cases h : runHostReads fuel second s <;> simp [runHostReads, h]
  | cons op rest ih =>
    simp only [List.cons_append, runHostReads]
    cases runHostOp fuel op s with
    | none => rfl
    | some t =>
      simp only [ih t]
      cases runHostReads fuel rest t with
      | none => rfl
      | some p =>
        cases h : runHostReads fuel second p.2 <;> simp [h]

/-- The end of a step of an idle block changes nothing. -/
theorem endOfStep_idle {s : State} (hp : s.pend = none) : endOfStep s = .next s := by
  unfold endOfStep
  rw [hp]

/-- A host operation on a valid block: its access, then the end of the step. -/
theorem hostStep_eq {op : HostOp} {s t u : State} (hv : validConfig s.cfg = true)
    (ha : hostAccess (hostOpAccess s.cfg.base op) s = .next t) (he : endOfStep t = .next u) : hostStep op s = some u := by
  have hs : step { s with port := .access (hostOpAccess s.cfg.base op) :: s.port } = .next u := by
    unfold step blockStep
    rw [if_pos hv]
    show accessThenEnd (hostOpAccess s.cfg.base op) s = .next u
    unfold accessThenEnd
    rw [ha]
    exact he
  unfold hostStep
  rw [hs]

/-- A legal read of an idle block returns its data and changes nothing else. -/
theorem hostStep_read {op : HostOp} {offset bytes : Nat} {v : U64} {s : State}
    (hop : ∀ base, hostOpAccess base op = .read (base + offset) bytes) (ho : offset < 0x40)
    (hv : validConfig s.cfg = true) (hp : s.pend = none) (hr : readWindow offset bytes s = some v) :
    hostStep op s = some { s with rdata := v } := by
  refine hostStep_eq (t := { s with rdata := v }) hv ?_ (endOfStep_idle hp)
  simp [hop, hostAccess, inWindow, ho, readAccess, hr]

/-- `rd dout` on an idle block. -/
theorem hostStep_rdDout {s : State} (hv : validConfig s.cfg = true) (hp : s.pend = none) :
    hostStep .rdDout s = some { s with rdata := s.dout } :=
  hostStep_read (offset := 0x18) (bytes := 8) (fun _ => rfl) (by decide) hv hp rfl

/-- `wait` on an idle block reads STATUS once. -/
theorem hostWait_idle (fuel : Nat) {s : State} (hv : validConfig s.cfg = true) (hp : s.pend = none) :
    hostWait (fuel + 1) s = some { s with rdata := statusWord s } := by
  have h : hostStep .wait s = some { s with rdata := statusWord s } :=
    hostStep_read (offset := 0x08) (bytes := 8) (fun _ => rfl) (by decide) hv hp rfl
  have hb : (statusWord s).getLsbD 0 = false := by
    unfold statusWord busy
    rw [BitVec.getLsbD_append, hp]
    rfl
  simp only [hostWait, h, hb, Bool.false_eq_true, if_false]

/-- `cmd` of an accepted command of latency 1 on an idle block: its meaning, with its word and DIN latched. -/
theorem hostStep_cmd {i : Instr} {s t : State} (hv : validConfig s.cfg = true) (hp : s.pend = none)
    (hd : decode (encode i) = .ok i) (ha : acceptCheck i { s with pend := some ⟨encode i, s.din, 0⟩ } = none)
    (hl : latencyOf i s = 1) (hx : exec i { s with pend := some ⟨encode i, s.din, 1⟩ } = .next t) :
    hostStep (.cmd i) s = some t := by
  have hw : trunc32 (zext64 (encode i)) = encode i := by
    unfold trunc32 zext64
    ext j hj
    simp [hj]
    omega
  have hc : presentCommand (encode i) s = { s with pend := some ⟨encode i, s.din, 1⟩ } := by
    simp [presentCommand, busy, hp, hd, latchPend, ha, hl]
  refine hostStep_eq (t := { s with pend := some ⟨encode i, s.din, 1⟩ }) hv ?_ ?_
  · simp [hostOpAccess, hostAccess, inWindow, writeAccess, writeWindow, hw, hc]
  · simp [endOfStep, completePending, hd, hx]

/-- `get` of a command of latency 1 on an idle block: the command's meaning runs, and DOUT after it is what the host
reads (30_encoding.md R114). -/
theorem runHostReads_get (fuel : Nat) {i : Instr} {s t : State} (hv : validConfig s.cfg = true) (hp : s.pend = none)
    (hd : decode (encode i) = .ok i) (ha : acceptCheck i { s with pend := some ⟨encode i, s.din, 0⟩ } = none)
    (hl : latencyOf i s = 1) (hx : exec i { s with pend := some ⟨encode i, s.din, 1⟩ } = .next t)
    (htv : validConfig t.cfg = true) (htp : t.pend = none) :
    runHostReads (fuel + 1) (pseudoGet i) s = some ([t.dout], { t with rdata := t.dout }) := by
  have hcmd := hostStep_cmd hv hp hd ha hl hx
  have hwait := hostWait_idle fuel htv htp
  have hread : hostStep .rdDout { t with rdata := statusWord t } = some { t with rdata := t.dout } :=
    hostStep_rdDout (s := { t with rdata := statusWord t }) htv htp
  simp [pseudoGet, pseudoDo, runHostReads, runHostOp, hcmd, hwait, hread, hostOpData]

/-! ### Draws (48_host_procedures.md R279 to R281) -/

/-- The block after one NEXT of an armed engine with DIN latched, before the host reads DOUT. -/
def afterNext (e : Engine) (s : State) : State :=
  emptyPend (effectOf (engineNext e) { s with pend := some ⟨encode (engineNext e), s.din, 1⟩ })

/-- NEXT keeps the parameters. -/
@[simp] theorem afterNext_cfg (e : Engine) (s : State) : (afterNext e s).cfg = s.cfg := by
  cases e with
  | xs => rfl
  | tmt => rfl
  | sfmt =>
    simp only [afterNext, engineNext, effectOf, outputWord, refillBuffer, emptyPend]
    split <;> rfl

/-- One draw from an armed engine of an idle block is one NEXT: its effect takes place once, and the host reads the DOUT it
leaves. -/
theorem drawRaw_of_armed (fuel : Nat) {e : Engine} {s : State} (hv : validConfig s.cfg = true) (hp : s.pend = none)
    (ha : armed e s = true) (hl : latencyOf (engineNext e) s = 1) :
    drawRaw (fuel + 1) e s = some ((afterNext e s).dout, { afterNext e s with rdata := (afterNext e s).dout }) := by
  have hd : decode (encode (engineNext e)) = .ok (engineNext e) := by cases e <;> decide
  have hc : ∀ left,
      acceptCheck (engineNext e) { s with pend := some ⟨encode (engineNext e), s.din, left⟩ } = none := by
    intro left
    cases e <;> simp only [armed] at ha <;> simp [engineNext, acceptCheck, checkArmed, armed, ha]
  have hget := runHostReads_get fuel hv hp hd (hc 0) hl (exec_of_pass (hc 1))
    (show validConfig (afterNext e s).cfg = true by rw [afterNext_cfg]; exact hv) rfl
  unfold drawRaw
  rw [← runHostReads_state, hget]
  rfl

/-- A bound below 1 is refused whatever the block's state, with no operation made. -/
theorem drawUniformInt_of_lt (fuel : Nat) (e : Engine) {bound : Int} (s : State) (h : bound < 1) :
    drawUniformInt fuel e bound s = .error .invalidBound := by
  simp [drawUniformInt, checkBound, h]

/-- A legal bound: the draw, and the engine's formula on what it read. -/
theorem drawUniformInt_of_le (fuel : Nat) (e : Engine) {bound : Int} (s : State) (h : 1 ≤ bound) :
    drawUniformInt fuel e bound s =
      .ok ((drawRaw fuel e s).map (fun p => (uniformIntOfDout e bound.toNat p.1, p.2))) := by
  have hn : ¬bound < 1 := Int.not_lt.2 h
  simp [drawUniformInt, checkBound, hn]

end Sys2Proof.Machine
end

