-- ==== Sys2Proof/Laws/PerInstr.lean ====
section
/-! SUPPORT. One family of lemmas per command: the encoding of each command lies in its row of the opcode map
(30_encoding.md R111). -/

namespace Sys2Proof.Laws.EncodesItsRow

/-- The command's word matches its row's pattern under its mask. -/
def Statement (i : Instr) : Prop := encode i &&& (opcodeRow i).mask = (opcodeRow i).pattern

/-- A packed word with an index, under the mask that leaves IDX out. -/
theorem packWord_and_mask (op : BitVec 4) (eng : BitVec 2) (k : BitVec 10) :
    packWord op eng k &&& 0xFFFC00FF = packWord op eng 0 := by
  have h : k.setWidth 32 <<< 8 &&& (0xFFFC00FF : U32) = 0 := by
    ext j hj
    simp only [BitVec.getElem_and, BitVec.getElem_shiftLeft]
    interval_cases j <;> simp
  have ho : op.setWidth 32 &&& (0xFFFC00FF : U32) = op.setWidth 32 := by
    ext j hj
    simp only [BitVec.getElem_and, BitVec.getElem_setWidth]
    interval_cases j <;> simp
  have he : eng.setWidth 32 <<< 4 &&& (0xFFFC00FF : U32) = eng.setWidth 32 <<< 4 := by
    ext j hj
    simp only [BitVec.getElem_and, BitVec.getElem_shiftLeft]
    interval_cases j <;> simp
  unfold packWord
  rw [show ∀ a b c m : U32, (a ||| b ||| c) &&& m = (a &&& m) ||| (b &&& m) ||| (c &&& m) by
    intro a b c m
    ext j hj
    simp only [BitVec.getElem_and, BitVec.getElem_or, Bool.and_or_distrib_right]]
  rw [h, ho, he]
  simp

theorem nop : Statement .nop := by unfold Statement; decide
theorem clrerr : Statement .clrerr := by unfold Statement; decide
theorem xsLdw (idx : BitVec 10) : Statement (.xsLdw idx) := packWord_and_mask 0x1 0 idx
theorem sfmtLdw (idx : BitVec 10) : Statement (.sfmtLdw idx) := packWord_and_mask 0x1 1 idx
theorem tmtLdw (idx : BitVec 10) : Statement (.tmtLdw idx) := packWord_and_mask 0x1 2 idx
theorem xsRdw (idx : BitVec 10) : Statement (.xsRdw idx) := packWord_and_mask 0x2 0 idx
theorem sfmtRdw (idx : BitVec 10) : Statement (.sfmtRdw idx) := packWord_and_mask 0x2 1 idx
theorem tmtRdw (idx : BitVec 10) : Statement (.tmtRdw idx) := packWord_and_mask 0x2 2 idx
theorem xsLdp : Statement .xsLdp := by unfold Statement; decide
theorem sfmtLdp : Statement .sfmtLdp := by unfold Statement; decide
theorem xsRdp : Statement .xsRdp := by unfold Statement; decide
theorem sfmtRdp : Statement .sfmtRdp := by unfold Statement; decide
theorem xsErst : Statement .xsErst := by unfold Statement; decide
theorem sfmtErst : Statement .sfmtErst := by unfold Statement; decide
theorem tmtErst : Statement .tmtErst := by unfold Statement; decide
theorem xsNext : Statement .xsNext := by unfold Statement; decide
theorem xsAdv : Statement .xsAdv := by unfold Statement; decide
theorem xsCert : Statement .xsCert := by unfold Statement; decide
theorem xsArm : Statement .xsArm := by unfold Statement; decide
theorem sfmtNext : Statement .sfmtNext := by unfold Statement; decide
theorem sfmtRefill : Statement .sfmtRefill := by unfold Statement; decide
theorem sfmtCert : Statement .sfmtCert := by unfold Statement; decide
theorem sfmtArm : Statement .sfmtArm := by unfold Statement; decide
theorem tmtNext : Statement .tmtNext := by unfold Statement; decide
theorem tmtAdv : Statement .tmtAdv := by unfold Statement; decide
theorem tmtCert : Statement .tmtCert := by unfold Statement; decide
theorem tmtArm : Statement .tmtArm := by unfold Statement; decide

end Sys2Proof.Laws.EncodesItsRow
end

