-- ==== Sys2Proof/Tests/Slice0.lean ====
section
/-! SUPPORT. Tests: the well-formedness smoke test, the decoding of words written out from 30_encoding.md R111, single
steps whose results stand in 95_test_vectors.md, and for every obligation with hypotheses a state that meets them. -/

namespace Sys2Proof.Tests

-- One theorem after the other: each kernel evaluation would otherwise take a thread of its own, past check.sh's memory.
set_option Elab.async false

open Sys2Proof Sys2Proof.Machine

/-! ### Well-formedness (R104): each check refuses an ill-formed command -/

theorem test_wf_xsLdw_refuses_16 : (Instr.xsLdw 16).wellFormed = false := by decide
theorem test_wf_sfmtLdw_refuses_624 : (Instr.sfmtLdw 624).wellFormed = false := by decide
theorem test_wf_tmtLdw_refuses_4 : (Instr.tmtLdw 4).wellFormed = false := by decide
theorem test_wf_xsRdw_refuses_16 : (Instr.xsRdw 16).wellFormed = false := by decide
theorem test_wf_sfmtRdw_refuses_624 : (Instr.sfmtRdw 624).wellFormed = false := by decide
theorem test_wf_tmtRdw_refuses_7 : (Instr.tmtRdw 7).wellFormed = false := by decide
theorem test_wf_accepts_the_last_index :
    (Instr.xsLdw 15).wellFormed = true ∧ (Instr.sfmtRdw 623).wellFormed = true ∧ (Instr.tmtLdw 3).wellFormed = true
      ∧ (Instr.tmtRdw 6).wellFormed = true := by decide

/-! ### Decoding: OP[3:0], ENG[5:4], RSV0[7:6], IDX[17:8], RSV1[31:18], written out bit by bit (R101, R102, R103) -/

theorem test_decode_nop : decode 0b00000000000000_0000000000_00_00_0000 = .ok .nop := by decide
theorem test_decode_clrerr : decode 0b00000000000000_0000000000_00_00_1110 = .ok .clrerr := by decide
theorem test_decode_xsLdw : decode 0b00000000000000_0000001111_00_00_0001 = .ok (.xsLdw 15) := by decide
theorem test_decode_sfmtLdw : decode 0b00000000000000_1001101111_00_01_0001 = .ok (.sfmtLdw 623) := by decide
theorem test_decode_tmtLdw : decode 0b00000000000000_0000000011_00_10_0001 = .ok (.tmtLdw 3) := by decide
theorem test_decode_xsRdw : decode 0b00000000000000_0000001010_00_00_0010 = .ok (.xsRdw 10) := by decide
theorem test_decode_sfmtRdw : decode 0b00000000000000_0100000001_00_01_0010 = .ok (.sfmtRdw 257) := by decide
theorem test_decode_tmtRdw : decode 0b00000000000000_0000000110_00_10_0010 = .ok (.tmtRdw 6) := by decide
theorem test_decode_xsLdp : decode 0b00000000000000_0000000000_00_00_0011 = .ok .xsLdp := by decide
theorem test_decode_sfmtLdp : decode 0b00000000000000_0000000000_00_01_0011 = .ok .sfmtLdp := by decide
theorem test_decode_xsRdp : decode 0b00000000000000_0000000000_00_00_0100 = .ok .xsRdp := by decide
theorem test_decode_sfmtRdp : decode 0b00000000000000_0000000000_00_01_0100 = .ok .sfmtRdp := by decide
theorem test_decode_xsErst : decode 0b00000000000000_0000000000_00_00_1101 = .ok .xsErst := by decide
theorem test_decode_sfmtErst : decode 0b00000000000000_0000000000_00_01_1101 = .ok .sfmtErst := by decide
theorem test_decode_tmtErst : decode 0b00000000000000_0000000000_00_10_1101 = .ok .tmtErst := by decide
theorem test_decode_xsNext : decode 0b00000000000000_0000000000_00_00_0101 = .ok .xsNext := by decide
theorem test_decode_xsAdv : decode 0b00000000000000_0000000000_00_00_0110 = .ok .xsAdv := by decide
theorem test_decode_xsCert : decode 0b00000000000000_0000000000_00_00_1000 = .ok .xsCert := by decide
theorem test_decode_xsArm : decode 0b00000000000000_0000000000_00_00_1001 = .ok .xsArm := by decide
theorem test_decode_sfmtNext : decode 0b00000000000000_0000000000_00_01_0101 = .ok .sfmtNext := by decide
theorem test_decode_sfmtRefill : decode 0b00000000000000_0000000000_00_01_0111 = .ok .sfmtRefill := by decide
theorem test_decode_sfmtCert : decode 0b00000000000000_0000000000_00_01_1000 = .ok .sfmtCert := by decide
theorem test_decode_sfmtArm : decode 0b00000000000000_0000000000_00_01_1001 = .ok .sfmtArm := by decide
theorem test_decode_tmtNext : decode 0b00000000000000_0000000000_00_10_0101 = .ok .tmtNext := by decide
theorem test_decode_tmtAdv : decode 0b00000000000000_0000000000_00_10_0110 = .ok .tmtAdv := by decide
theorem test_decode_tmtCert : decode 0b00000000000000_0000000000_00_10_1000 = .ok .tmtCert := by decide
theorem test_decode_tmtArm : decode 0b00000000000000_0000000000_00_10_1001 = .ok .tmtArm := by decide

/-- Rejected words of 95_test_vectors.md 2.1. -/
theorem test_decode_rejects :
    decode 0x00000040 = .error .rsvdBits ∧ decode 0x00000F0A = .error .illegalOp ∧ decode 0x00000030 = .error .rsvdBits
      ∧ decode 0x00000007 = .error .opEngine ∧ decode 0x00000105 = .error .rsvdBits := by decide

/-- Assembly and its refusals (R112; 95_test_vectors.md P4). -/
theorem test_assemble :
    assemble "xs.rdw" (some 16) = some 0x00001002 ∧ assemble "sfmt.refill" none = some 0x00000017
      ∧ assemble "xs.next" (some 0) = none ∧ assemble "tmt.ldw" none = none := by decide +kernel

/-! ### Small states and one step on them -/

/-- The state after a step, if it answers one. -/
def nextOf (o : Host.Outcome State Fault Refusal) : Option State :=
  match o with
  | .next t => some t
  | .fault _ => none
  | .refused _ => none

/-- One step on a state where the word is the next command. -/
def runWord (w : Nat) (s : State) : Option State := nextOf (step (s.withFetchWord 32 w))

/-- One step on one access. -/
def runAccess (a : Access) (s : State) : Option State := nextOf (step { s with port := [.access a] })

/-- Reset, then DIN. -/
def withDin (v : U64) : State := { State.reset with din := v }

/-- W[i] = i + 1, armed (95_test_vectors.md 2.4). -/
def countingRing : State :=
  { State.reset with xsW := #v[1, 2, 3, 4, 5, 6, 7, 8, 9, 10, 11, 12, 13, 14, 15, 16], armedXs := true, dout := 0x1234 }

/-- SF.W[0..3] given, the other words 0, armed. -/
def laneZero (a b c d : U32) : State :=
  { State.reset with sfW := writeLane (Vector.replicate 624 0) 0 (d ++ c ++ b ++ a), armedSf := true }

/-- TM.S given, armed. -/
def tinyState (a b c d : U32) : State := { State.reset with tmS := #v[a, b, c, d], armedTm := true }

/-- Reset with SF.W[623] = 0xABCD, SF.IDX = 623, armed (95_test_vectors.md 2.5). -/
def lastWord : State :=
  { State.reset with sfW := writeWord (Vector.replicate 624 0) 623 0xABCD, sfIdx := 623, armedSf := true }

/-- Parity constants with an even total, which check K1 refuses. -/
def badConfig : Params := { Params.default with sfmtParity := #v[1, 0, 0, 1] }

/-! ### Single steps (95_test_vectors.md 2.1 to 2.7) -/

theorem test_nop_keeps_the_record :
    (runWord 0x00 { State.reset with err := true, errcode := 8 }).map statusWord = some 0x082 := by decide +kernel
theorem test_clrerr_clears_the_record :
    (runWord 0x0E { State.reset with err := true, errcode := 8 }).map statusWord = some 0x000 := by decide +kernel
theorem test_xsLdw_writes_all_64_bits :
    (runWord 0x501 (withDin 0xFFFFFFFF000004D2)).map (fun t => readWord t.xsW 5) = some 0xFFFFFFFF000004D2 := by
  decide +kernel
theorem test_xsLdw_disarms : (runWord 0x301 countingRing).map (fun t => t.armedXs) = some false := by decide +kernel
theorem test_sfmtLdw_ignores_the_upper_half :
    (runWord 0x11 (withDin 0xFFFFFFFF000004D2)).map (fun t => readWord t.sfW 0) = some 0x000004D2 := by decide +kernel
theorem test_sfmtLdw_last_word :
    (runWord 0x26F11 (withDin 5)).map (fun t => readWord t.sfW 623) = some 5 := by decide +kernel
theorem test_tmtLdw_writes_a_status_word :
    (runWord 0x21 (withDin 0xE91E498A)).map (fun t => readWord t.tmS 0) = some 0xE91E498A := by decide +kernel
theorem test_tmtLdw_4_is_read_only : (runWord 0x421 State.reset).map statusWord = some 0x062 := by decide +kernel
theorem test_xsRdw_reads_the_ring : (runWord 0xF02 countingRing).map (fun t => t.dout) = some 16 := by decide +kernel
theorem test_xsRdw_16_is_out_of_range : (runWord 0x1002 State.reset).map statusWord = some 0x052 := by decide +kernel
theorem test_sfmtRdw_reads_the_buffer :
    (runWord 0x26F12 lastWord).map (fun t => t.dout) = some 0xABCD := by decide +kernel
theorem test_tmtRdw_4_reads_mat1 :
    (runWord 0x422 State.reset).map (fun t => t.dout) = some 0x000000008F7011EE := by decide +kernel
theorem test_tmtRdw_6_reads_tmat :
    (runWord 0x622 State.reset).map (fun t => t.dout) = some 0x000000003793FDFF := by decide +kernel
theorem test_xsLdp_15 : (runWord 0x03 (withDin 15)).map (fun t => t.xsP) = some 15 := by decide +kernel
theorem test_xsLdp_16_fails : (runWord 0x03 (withDin 16)).map statusWord = some 0x072 := by decide +kernel
theorem test_sfmtLdp_624 : (runWord 0x13 (withDin 624)).map (fun t => t.sfIdx) = some 624 := by decide +kernel
theorem test_sfmtLdp_checks_all_64_bits :
    (runWord 0x13 (withDin 0x100000000)).map statusWord = some 0x072 := by decide +kernel
theorem test_xsRdp_after_a_next :
    ((runWord 0x05 countingRing).bind (runWord 0x04)).map (fun t => t.dout) = some 1 := by decide +kernel
theorem test_sfmtRdp_after_reset : (runWord 0x14 State.reset).map (fun t => t.dout) = some 624 := by decide +kernel
theorem test_xsErst_keeps_dout :
    (runWord 0x0D countingRing).map (fun t => (t.xsW, t.armedXs, t.dout))
      = some (Vector.replicate 16 0, false, 0x1234) := by decide +kernel
theorem test_sfmtErst_cursor :
    (runWord 0x1D lastWord).map (fun t => (t.sfIdx, t.armedSf, readWord t.sfW 623)) = some (624, false, 0) := by
  decide +kernel
theorem test_tmtErst_words :
    (runWord 0x2D (tinyState 1 2 3 4)).map (fun t => (t.tmS, t.armedTm)) = some (#v[0, 0, 0, 0], false) := by
  decide +kernel
theorem test_xsNext_counting_ring :
    (runWord 0x05 countingRing).map (fun t => (readWord t.xsW 1, t.xsP, t.dout))
      = some (0x0000000100200003, 1, 0xC0562E31B467F91F) := by decide +kernel
theorem test_xsNext_wraps_from_slot_15 :
    (runWord 0x05 { State.reset with xsW := writeWord (Vector.replicate 16 0) 0 1, xsP := 15, armedXs := true }).map
      (fun t => (readWord t.xsW 0, t.xsP, t.dout)) = some (0x0000000080100001, 0, 0xD7F7D22EAFE7FDB5) := by decide +kernel
theorem test_xsAdv_keeps_dout :
    (runWord 0x06 countingRing).map (fun t => (readWord t.xsW 1, t.xsP, t.dout))
      = some (0x0000000100200003, 1, 0x1234) := by decide +kernel
theorem test_xsCert_clears_cert_fixed :
    (runWord 0x08 { countingRing with certFixed := true }).map statusWord = some 0x100 := by decide +kernel
theorem test_xsCert_zero_ring : (runWord 0x08 State.reset).map statusWord = some 0x092 := by decide +kernel
theorem test_xsArm_arms :
    (runWord 0x09 { State.reset with xsW := writeWord (Vector.replicate 16 0) 3 5 }).map statusWord = some 0x100 := by
  decide +kernel
theorem test_sfmtNext_last_word :
    (runWord 0x15 lastWord).map (fun t => (t.dout, t.sfIdx)) = some (0xABCD, 624) := by decide +kernel
theorem test_sfmtRefill_cursor :
    (runWord 0x17 lastWord).map (fun t => (t.sfIdx, t.dout, t.armedSf)) = some (0, 0, true) := by decide +kernel
theorem test_sfmtRefill_unarmed : (runWord 0x17 State.reset).map statusWord = some 0x082 := by decide +kernel
/-- Lane 0 of the refill of SF.W[0] = 1; `RefillFollowsLaneRecurrence` says the same of every lane. -/
theorem test_refill_first_lane :
    laneOf (sfRefillLane Params.default.sfmtMsk (laneZero 1 0 0 0).sfW 0) 0 = 0x00000101 := by decide +kernel
theorem test_sfRec_rows :
    sfRec Params.default.sfmtMsk 0 0xFFFFFFFFFFFFFFFFFFFFFFFFFFFFFFFF 0 0 = 0x001FFFF6001AFFFF001ECB7F001FFFEF
      ∧ sfRec Params.default.sfmtMsk 0 0 0xFFFFFFFFFFFFFFFFFFFFFFFFFFFFFFFF 0 = 0x00FFFFFFFFFFFFFFFFFFFFFFFFFFFFFF
      ∧ sfRec Params.default.sfmtMsk 0 0 0 1 = 0x00040000
      ∧ sfRec Params.default.sfmtMsk 0xFFFFFFFFFFFFFFFFFFFFFFFFFFFFFFFF 0 0 0 = 0xFF := by decide +kernel
theorem test_sfmtCert_doc :
    (runWord 0x18 (laneZero 1 0 0 4)).map (fun t => (laneOf t.sfW 0, statusWord t))
      = some (0x00000084000000000000000000000001, 0xA00) := by decide +kernel
theorem test_sfmtCert_ref :
    (runWord 0x18 { laneZero 1 0 0 4 with cfg := { Params.default with sfmtCertFix := .ref } }).map
      (fun t => (laneOf t.sfW 0, statusWord t)) = some (0x00000004000000000000000000000000, 0xA00) := by decide +kernel
theorem test_sfmtArm_arms :
    (runWord 0x19 { State.reset with sfW := writeWord (Vector.replicate 624 0) 5 1 }).map statusWord = some 0x200 := by
  decide +kernel
theorem test_tmtNext_p3 :
    (runWord 0x25 (tinyState 0x0CCA24D8 0x11BA5AD5 0xF2DAD045 0xD95DD7B2)).map (fun t => (t.tmS, t.dout))
      = some (#v[0x11BA5AD5, 0x7DAAC1AB, 0xFFBDC1C7, 0x850CCEB3], 0x97B6D625) := by decide +kernel
theorem test_tmtAdv_unread_bit_31 :
    (runWord 0x26 (tinyState 0x80000001 0 0 0)).map (fun t => (t.tmS, t.dout))
      = some (#v[0x00000000, 0x8F7011EE, 0xFC78F31C, 0x00000003], 0) := by decide +kernel
theorem test_tmtCert_rescues :
    (runWord 0x28 State.reset).map (fun t => (t.tmS, statusWord t)) = some (#v[0x54, 0x49, 0x4E, 0x59], 0xC00) := by
  decide +kernel
theorem test_tmtArm_second_forbidden_pattern :
    (runWord 0x29 { State.reset with tmS := #v[0x80000000, 0, 0, 0] }).map statusWord = some 0x092 := by decide +kernel
theorem test_tmtArm_keeps_cert_fixed :
    (runWord 0x29 { tinyState 0x54 0x49 0x4E 0x59 with certFixed := true }).map statusWord = some 0xC00 := by
  decide +kernel
theorem test_temper_reads_bit_31 :
    tmTemper Params.default.tmtTmat #v[0x80000000, 0, 0, 0] = 0x80000000
      ∧ tmTemper Params.default.tmtTmat #v[0, 0, 0x100, 0] = 0x3793FDFE := by decide +kernel

/-! ### The port (95_test_vectors.md 2.2, 2.7) -/

theorem test_read_id : (runAccess (.read 0x20 8) State.reset).map (fun t => t.rdata) = some 0x107 := by decide +kernel
theorem test_write_status_is_illegal :
    (runAccess (.write 0x08 4 0) State.reset).map statusWord = some 0x0B2 := by decide +kernel
theorem test_cmd_write_of_64_bits_is_illegal :
    (runAccess (.write 0x00 8 0x0E) State.reset).map statusWord = some 0x0B2 := by decide +kernel
theorem test_din_by_halves :
    ((runAccess (.write 0x14 4 0x89ABCDEF) State.reset).bind (runAccess (.write 0x10 4 0x01234567))).map
      (fun t => t.din) = some 0x89ABCDEF01234567 := by decide +kernel
theorem test_busy_is_refused_and_the_refill_stays_pending :
    ((runAccess (.write 0x00 4 0x17) (laneZero 1 0 0 0)).bind (runAccess (.write 0x00 4 0x0A))).map
      (fun t => (statusWord t, readWord t.sfW 0)) = some (0x2A3, 1) := by decide +kernel
theorem test_reset_abandons_the_refill :
    ((runAccess (.write 0x00 4 0x17) (laneZero 1 0 0 0)).bind (fun s => nextOf (step { s with port := [.reset] }))).map
      (fun t => (statusWord t, t.pend)) = some (0x000, none) := by decide +kernel
/-- AS183's worked numbers, as 90_conflicts.md C5 corrects them. -/
theorem test_as183 : as183Advance as183Initial = ⟨27839, 21123, 25074⟩ := by decide +kernel
/-- The value 0.44358... of 95_test_vectors.md 1.6: floor(0.44358 * 6) + 1 = 3; and the refused bound of 1.4. -/
theorem test_as183_uniformInt :
    as183UniformInt 6 as183Initial = .ok (3, ⟨27839, 21123, 25074⟩) ∧ as183UniformInt 0 as183Initial = .error .invalidBound
    := by decide +kernel
/-- R277's mixed state for (1, 2, 3), and R278: integers that agree in their low 32 bits seed alike. -/
theorem test_tmtSeed :
    tmtSeed Params.default 1 2 3 = #v[0xCC1761E9, 0x7ECAC6C6, 0xE662E80D, 0x3A368C2B]
      ∧ wordKey [-1, 0x100000002] = [0xFFFFFFFF, 2] := by decide +kernel
/-- A host that picks a value for each parameter the source leaves without one. -/
def someHost : HostParams :=
  { xs64SeedProc := fun _ _ _ => 1
    xs128pSeedProc := fun _ _ _ => (1, 2)
    hostFloat := id
    xsDefaultSeed := xs1024Seed 1 2 3
    sfmtDefaultSeed := sfmtFromInteger 1234
    tmtDefaultSeed := tmtInit Params.default 1
    xs64DefaultSeed := 1
    xs128pDefaultSeed := (1, 2) }
/-- R287: the default algorithm is AS183. -/
theorem test_default_algorithm :
    hostInitialState someHost none = .as183 ⟨3172, 9814, 20125⟩
      ∧ hostSeed someHost Params.default none 1 2 3 = .as183 ⟨2, 3, 4⟩ := by decide +kernel
/-- The identifiers, and HOST_DEFAULT_SEED as the initial state of an engine of the block (R281, R284, R287). -/
theorem test_initialState_by_id :
    hostInitialStateById someHost "tinymt32" = .ok (.tinymt32 #v[0xE91E498A, 0x1E7BCC9A, 0xA56A4C0E, 0xDFC6A2BA])
      ∧ hostInitialStateById someHost "nonexistent" = .error .unknownAlgorithm := by decide +kernel
/-- P3's first output through `uniformInt(6)` and `uniformFloat` (95_test_vectors.md 1.2): one NEXT each. -/
theorem test_draw_tmt :
    let s := tinyState 0x0CCA24D8 0x11BA5AD5 0xF2DAD045 0xD95DD7B2
    ((drawUniformInt 1 .tmt 6 s).toOption.bind id).map (fun p => (p.1, readWord p.2.tmS 3)) = some (6, 0x850CCEB3)
      ∧ (drawUniformFloat someHost 1 .tmt s).map Prod.fst = some ((2545341989 + 1 / 2) / 2 ^ 32) := by decide +kernel
/-- 95_test_vectors.md 1.4. -/
theorem test_draw_refuses_bounds :
    (drawUniformInt 1 .xs 0 countingRing).isOk = false ∧ (drawUniformInt 1 .xs (-1) countingRing).isOk = false := by
  decide +kernel
/-- One `get` of a save, and what it reads (95_test_vectors.md P5). -/
theorem test_save_reads_a_word :
    (runHostReads 1 (pseudoGet (.tmtRdw 2)) (tinyState 0x11BA5AD5 0x7DAAC1AB 0xFFBDC1C7 0x850CCEB3)).map Prod.fst
      = some [0xFFBDC1C7] := by decide +kernel
theorem test_save_lengths :
    saveXs.length = 3 * 17 ∧ saveSfmt.length = 3 * 625 ∧ saveTmt.length = 3 * 4 := by decide +kernel

/-! ### Witnesses: for each obligation with hypotheses, states and operands that meet them, clause by clause, at the
ends of the ranges

`answers i s` says that the command answers a next state and gives its STATUS word. -/

/-- STATUS after the command, if it answers a next state. -/
def answers (i : Instr) (s : State) : Option U64 := (nextOf (exec i s)).map statusWord

/-- SFMT armed on a nonzero state, a refill pending with `left` steps to go. -/
def pendingRefill (left : Nat) : State := { laneZero 1 0 0 0 with pend := some ⟨0x17, 0, left⟩ }

/-- A CMD write as the only event. -/
def presenting (v : U64) (s : State) : State := { s with port := [.access (.write 0 4 v)] }

theorem witness_DecodedWordIsItsEncoding : decode 0x00026F12 = .ok (.sfmtRdw 623) := by decide

theorem witness_RejectedWords_each_case :
    decode 0x0000003F = .error .illegalOp ∧ decode 0x00000031 = .error .illegalEng
      ∧ decode 0x00000723 = .error .opEngine ∧ decode 0x00000105 = .error .rsvdBits := by decide

theorem witness_ControlCommandsRun :
    (0x00000010#32).extractLsb' 0 4 = 0x0#4 ∧ decode 0x00000010 = .error .rsvdBits
      ∧ (0x0000003E#32).extractLsb' 0 4 = 0xE#4 ∧ decode 0x0000003E = .error .rsvdBits
      ∧ answers .nop State.reset = some 0 ∧ answers .clrerr State.reset = some 0
      ∧ (State.reset.pend = none ∧ (runAccess (.write 0 4 0x3E) State.reset).map statusWord = some 0x032)
      ∧ ((pendingRefill 9).pend.isSome = true ∧ State.reset.err = false
        ∧ { State.reset with err := true, errcode := 8 }.err = true) := by decide +kernel

theorem witness_XsStepFollowsRecurrence :
    (2 < 16 ∧ 2 ≠ 1) ∧ readWord (xsStep countingRing.xsW 0).1 2 = 3 := by decide +kernel

theorem witness_StepsKeepTheParameters : (nextOf (step (presenting 0x05 countingRing))).isSome = true := by
  decide +kernel

theorem witness_LoadWordCommandsRun :
    answers (.xsLdw 0) countingRing = some 0 ∧ answers (.xsLdw 15) countingRing = some 0
      ∧ answers (.xsLdw 16) countingRing = some 0x152 ∧ answers (.xsLdw 1023) countingRing = some 0x152
      ∧ answers (.sfmtLdw 623) lastWord = some 0 ∧ answers (.sfmtLdw 624) lastWord = some 0x252
      ∧ answers (.tmtLdw 3) (tinyState 1 0 0 0) = some 0 ∧ answers (.tmtLdw 4) (tinyState 1 0 0 0) = some 0x462
      ∧ answers (.tmtLdw 6) (tinyState 1 0 0 0) = some 0x462
      ∧ answers (.tmtLdw 7) (tinyState 1 0 0 0) = some 0x452 := by decide +kernel

theorem witness_ReadWordCommandsRun :
    answers (.xsRdw 15) countingRing = some 0x100 ∧ answers (.xsRdw 16) countingRing = some 0x152
      ∧ answers (.sfmtRdw 623) lastWord = some 0x200 ∧ answers (.sfmtRdw 624) lastWord = some 0x252
      ∧ answers (.tmtRdw 3) (tinyState 1 0 0 0) = some 0x400 ∧ answers (.tmtRdw 5) (tinyState 1 0 0 0) = some 0x400
      ∧ answers (.tmtRdw 7) (tinyState 1 0 0 0) = some 0x452 := by decide +kernel

theorem witness_PointerAndCursorCommandsRun :
    ((operandDin (withDin 15)).toNat ≤ 15 ∧ answers .xsLdp (withDin 15) = some 0)
      ∧ (15 < (operandDin (withDin 16)).toNat ∧ answers .xsLdp (withDin 16) = some 0x072)
      ∧ ((operandDin (withDin 624)).toNat ≤ 624 ∧ answers .sfmtLdp (withDin 624) = some 0)
      ∧ (624 < (operandDin (withDin 625)).toNat ∧ answers .sfmtLdp (withDin 625) = some 0x072)
      ∧ answers .xsRdp State.reset = some 0 ∧ answers .sfmtRdp State.reset = some 0 := by decide +kernel

theorem witness_EngineResetCommandsRun :
    answers .xsErst countingRing = some 0 ∧ answers .sfmtErst lastWord = some 0
      ∧ answers .tmtErst (tinyState 1 0 0 0) = some 0 := by decide +kernel

/-- An index that the commands without an index reject. -/
theorem witness_rejectsIndex : (1 : BitVec 10) ≠ 0 ∧ decode (encode .xsNext ||| 0x100) = .error .rsvdBits := by decide

theorem witness_PendingCommandIgnoresLaterDin :
    (pendingRefill 1).pend = some ⟨0x17, 0, 1⟩ ∧ operandDin { pendingRefill 1 with din := 9 } = 0 := by decide +kernel

theorem witness_XsAdvanceCommandsRun :
    (countingRing.armedXs = true ∧ answers .xsNext countingRing = some 0x100 ∧ answers .xsAdv countingRing = some 0x100)
      ∧ (State.reset.armedXs = false ∧ answers .xsNext State.reset = some 0x082
        ∧ answers .xsAdv State.reset = some 0x082) := by decide +kernel

theorem witness_XsCertifyCommandsRun_nonzero :
    (∃ k, k < 16 ∧ readWord countingRing.xsW k ≠ 0)
      ∧ answers .xsCert countingRing = some 0x100 ∧ answers .xsArm countingRing = some 0x100 :=
  ⟨⟨15, by decide +kernel⟩, by decide +kernel⟩

theorem witness_XsCertifyCommandsRun_zero :
    (∀ k, k < 16 → readWord State.reset.xsW k = 0)
      ∧ answers .xsCert State.reset = some 0x092 ∧ answers .xsArm State.reset = some 0x092 := by decide +kernel

/-- The two-queue form at both ends: 16 active words, and a single one, where the roles swap. -/
theorem witness_TwoQueueFormRefinesRing :
    queuesMatchRing [1, 2, 3, 4, 5, 6, 7, 8, 9, 10, 11, 12, 13, 14, 15, 16] [] countingRing.xsW 0
      ∧ queuesMatchRing [1] [16, 15, 14, 13, 12, 11, 10, 9, 8, 7, 6, 5, 4, 3, 2] countingRing.xsW 0
      ∧ queuesMatchRing [15, 16] [14, 13, 12, 11, 10, 9, 8, 7, 6, 5, 4, 3, 2, 1] countingRing.xsW 14 := by
  unfold queuesMatchRing
  decide +kernel

/-- The ends of the ranges of lanes, sub-words and words, and of the three ranges of the refill. -/
theorem witness_lane_ranges :
    (155 < 156 ∧ 3 < 4 ∧ 623 < 624) ∧ (33 < 156 ∧ 33 < 34 ∧ ¬33 < 2) ∧ (1 < 2 ∧ ¬1 < 1) ∧ (0 < 1 ∧ ¬34 < 34) := by
  decide

theorem witness_SfmtOutputCommandsRun_exhausted :
    let s := { lastWord with sfIdx := 624 }
    s.armedSf = true ∧ s.sfIdx.toNat = 624 ∧ answers .sfmtNext s = some 0x200 ∧ answers .sfmtRefill s = some 0x200 := by
  decide +kernel

theorem witness_SfmtOutputCommandsRun_words_left :
    lastWord.armedSf = true ∧ lastWord.sfIdx.toNat < 624 ∧ answers .sfmtNext lastWord = some 0x200 := by decide +kernel

theorem witness_SfmtOutputCommandsRun_unarmed :
    State.reset.armedSf = false ∧ answers .sfmtNext State.reset = some 0x082
      ∧ answers .sfmtRefill State.reset = some 0x082 := by decide +kernel

/-- K1 holds and the parity is even, in the state the spec checks by hand. -/
theorem witness_SfFixFlipsFirstQualifyingBit :
    (popcount (readWord Params.default.sfmtParity 0) + popcount (readWord Params.default.sfmtParity 1)
        + popcount (readWord Params.default.sfmtParity 2) + popcount (readWord Params.default.sfmtParity 3)) % 2 = 1
      ∧ sfParity Params.default.sfmtParity (laneZero 1 0 0 4).sfW = 0 := by decide +kernel

theorem witness_SfmtCertCommandRuns :
    (sfParity State.reset.cfg.sfmtParity (laneZero 1 0 0 0).sfW = 1
        ∧ answers .sfmtCert (laneZero 1 0 0 0) = some 0x200)
      ∧ (sfParity State.reset.cfg.sfmtParity State.reset.sfW ≠ 1 ∧ answers .sfmtCert State.reset = some 0xA00) := by
  decide +kernel

theorem witness_SecondSfmtCertChangesNothing :
    ∃ t, validConfig State.reset.cfg = true ∧ exec .sfmtCert State.reset = .next t :=
  ⟨_, by decide +kernel, rfl⟩

theorem witness_SfmtArmCommandRuns :
    ((∃ k, k < 624 ∧ readWord lastWord.sfW k ≠ 0) ∧ answers .sfmtArm lastWord = some 0x200)
      ∧ ((∀ k, k < 624 → readWord State.reset.sfW k = 0) ∧ answers .sfmtArm State.reset = some 0x092) :=
  ⟨⟨⟨623, by decide +kernel⟩, by decide +kernel⟩, fun k h => by simp [readWord, State.reset, h], by decide +kernel⟩

theorem witness_DegenerateIsTwoPatterns :
    tmDegenerate #v[0, 0, 0, 0] = true ∧ tmDegenerate #v[0x80000000, 0, 0, 0] = true
      ∧ tmDegenerate #v[0x80000001, 0, 0, 0] = false := by decide +kernel

/-- Two different states whose steps agree: they differ in the bit the step does not read. -/
theorem witness_TmStepKeepsDegeneracy :
    let next := tmStep Params.default.tmtMat1 Params.default.tmtMat2
    (readWord (next #v[1, 0, 0, 0]) 0 &&& 0x7fffffff) = (readWord (next #v[0x80000001, 0, 0, 0]) 0 &&& 0x7fffffff)
      ∧ (∀ k, k < 4 → 1 ≤ k → readWord (next #v[1, 0, 0, 0]) k = readWord (next #v[0x80000001, 0, 0, 0]) k) := by
  decide +kernel

theorem witness_TmtAdvanceCommandsRun :
    ((tinyState 1 0 0 0).armedTm = true ∧ answers .tmtNext (tinyState 1 0 0 0) = some 0x400
        ∧ answers .tmtAdv (tinyState 1 0 0 0) = some 0x400)
      ∧ (State.reset.armedTm = false ∧ answers .tmtNext State.reset = some 0x082
        ∧ answers .tmtAdv State.reset = some 0x082) := by decide +kernel

theorem witness_TmtCertifyCommandsRun :
    (tmDegenerate State.reset.tmS = true ∧ answers .tmtCert State.reset = some 0xC00
        ∧ answers .tmtArm State.reset = some 0x092)
      ∧ (tmDegenerate (tinyState 1 0 0 0).tmS = false ∧ answers .tmtCert (tinyState 1 0 0 0) = some 0x400
        ∧ answers .tmtArm (tinyState 1 0 0 0) = some 0x400) := by decide +kernel

/-- Recording on a clear and on a full record; a step that keeps a full record. -/
theorem witness_FirstErrorIsKept :
    let s := presenting 0x05 { State.reset with err := true, errcode := 9 }
    (State.reset.err = false ∧ statusWord (recordError .bus State.reset) = 0x0B2)
      ∧ s.err = true ∧ s.port.head? ≠ some .reset ∧ s.pend = none ∧ (0x05#64).extractLsb' 0 32 ≠ 0x0000000E#32
      ∧ (nextOf (step s)).map statusWord = some 0x092 := by decide +kernel

/-- Illegal accesses at both ends of the window. -/
theorem witness_IllegalAccessesRecordBusError :
    (0x3F < 0x40 ∧ (runAccess (.read 0x3F 1) State.reset).map statusWord = some 0x0B2)
      ∧ (0x00 < 0x40 ∧ (runAccess (.write 0x00 8 0) State.reset).map statusWord = some 0x0B2) := by decide +kernel

/-- Addresses below, at the end of, and past a window at BASE = 0x40. -/
theorem witness_AccessesTheBlockDoesNotHaveStop :
    let s := { State.reset with cfg := { Params.default with base := 0x40 } }
    (0x3F < s.cfg.base ∧ nextOf (hostAccess (.read 0x3F 1) s) = none)
      ∧ (s.cfg.base + 0x40 ≤ 0x80 ∧ nextOf (hostAccess (.write 0x80 4 0) s) = none)
      ∧ ((s.cfg.base ≤ 0x7F ∧ 0x7F < s.cfg.base + 0x40) ∧ nextOf (hostAccess (.fetch 0x7F) s) = none) := by
  decide +kernel

/-- The four clauses: busy, a word that spells no command, a failing check, an accepted command. -/
theorem witness_CommandPresentation :
    ((pendingRefill 5).pend.isSome = true)
      ∧ (State.reset.pend = none ∧ decode 0x0000000A = .error .illegalOp)
      ∧ (decode 0x00000005 = .ok .xsNext
        ∧ acceptCheck .xsNext { State.reset with pend := some ⟨0x05, 0, 0⟩ } = some .notArmed)
      ∧ (decode 0x00000014 = .ok .sfmtRdp
        ∧ acceptCheck .sfmtRdp { State.reset with pend := some ⟨0x14, 0, 0⟩ } = none) := by decide +kernel

theorem witness_StepRunsDecodedCommand_failing_check :
    let s := presenting 0x05 State.reset
    validConfig s.cfg = true ∧ s.pend = none ∧ decode ((0x05#64).extractLsb' 0 32) = .ok .xsNext
      ∧ acceptCheck .xsNext { s with port := [], pend := some ⟨0x05, 0, 1⟩ } ≠ none := by decide +kernel

theorem witness_StepRunsDecodedCommand_latency_1 :
    let s := presenting 0x05 countingRing
    validConfig s.cfg = true ∧ s.pend = none ∧ latencyOf .xsNext s = 1
      ∧ acceptCheck .xsNext { s with port := [], pend := some ⟨0x05, 0, 1⟩ } = none := by decide +kernel

theorem witness_StepRunsDecodedCommand_latency_156 :
    let s := presenting 0x17 (laneZero 1 0 0 0)
    validConfig s.cfg = true ∧ s.pend = none ∧ decode ((0x17#64).extractLsb' 0 32) = .ok .sfmtRefill
      ∧ acceptCheck .sfmtRefill { s with port := [], pend := some ⟨0x17, 0, 1⟩ } = none
      ∧ latencyOf .sfmtRefill s = 156 := by decide +kernel

theorem witness_InvalidConfigurationIsRefused :
    validConfig badConfig = false ∧ nextOf (step { State.reset with cfg := badConfig }) = none
      ∧ (nextOf (step State.reset)).map statusWord = some 0 := by decide +kernel

/-- The last step and an earlier one, with no event left and with an idle cycle. -/
theorem witness_StepCompletesPendingCommand :
    validConfig (pendingRefill 1).cfg = true ∧ (pendingRefill 1).pend = some ⟨0x17, 0, 1⟩
      ∧ decode 0x00000017 = .ok .sfmtRefill ∧ (pendingRefill 1).port = []
      ∧ (nextOf (step { pendingRefill 2 with port := [.idle] })).map (fun t => t.pend)
        = some (some ⟨0x17, 0, 1⟩) := by decide +kernel

theorem witness_FetchWordIsTheNextCommand :
    validConfig (State.reset.withFetchWord 32 0x14).cfg = true ∧ decodeTableWord 32 0x14 = some .sfmtRdp := by
  decide +kernel

theorem witness_PendingCommandCompletes :
    validConfig (pendingRefill 156).cfg = true ∧ (pendingRefill 156).pend = some ⟨0x17, 0, 156⟩
      ∧ (pendingRefill 156).port = List.replicate 0 .idle ∧ 155 < 156 := by decide +kernel

/-- A refill one step before its last, and a DIN write. -/
theorem witness_PendingCommandShowsNoEffect :
    let s := { pendingRefill 2 with port := [.access (.write 0x10 8 7)] }
    s.pend = some ⟨0x17, 0, 2⟩ ∧ 1 < 2 ∧ s.port.head? ≠ some .reset
      ∧ (nextOf (step s)).map (fun t => (t.din, t.pend, readWord t.sfW 0)) = some (7, some ⟨0x17, 0, 1⟩, 1) := by
  decide +kernel

theorem witness_EveryCommandAnswersNext : acceptCheck .xsNext State.reset = some .notArmed := by decide +kernel

theorem witness_CompletionRecordsNoError_rdp :
    let s := { State.reset with err := true, errcode := 3, pend := some ⟨0x14, 0, 1⟩ }
    pendOk s ∧ s.port = [] ∧ (nextOf (step s)).map statusWord = some 0x032 := by
  refine ⟨fun p h => ?_, rfl, by decide +kernel⟩
  cases h
  exact ⟨by decide, .sfmtRdp, by decide, rfl⟩

theorem witness_CompletionRecordsNoError_clrerr :
    let s := { State.reset with err := true, errcode := 3, pend := some ⟨0x0E, 0, 1⟩ }
    pendOk s ∧ s.port = [] ∧ (nextOf (step s)).map statusWord = some 0 := by
  refine ⟨fun p h => ?_, rfl, by decide +kernel⟩
  cases h
  exact ⟨by decide, .clrerr, by decide, rfl⟩

theorem witness_CommandsTouchOnlyTheirEngine :
    engineUsed .tmtCert ≠ some .xs ∧ engineUsed .tmtCert ≠ some .sfmt ∧ engineUsed .nop ≠ some .tmt
      ∧ answers .tmtCert State.reset = some 0xC00 := by decide +kernel

theorem witness_ResetEventAbandonsPending :
    let s := { pendingRefill 9 with port := [.reset] }
    validConfig s.cfg = true ∧ s.port = .reset :: [] := by decide +kernel

theorem witness_AfterResetAdvanceFailsSfmtAndTmtCertArm :
    Params.default.sfmtParity = #v[0x00000001, 0x00000000, 0x00000000, 0x13c9e684] := by decide

/-- A state that meets every invariant and takes a step which records an error, advances the cursor and stays armed. -/
theorem witness_StepKeepsInvariants_output :
    let s := presenting 0x15 lastWord
    errorRecordOk s ∧ cursorOk s ∧ armedOk s ∧ pendOk s
      ∧ (nextOf (step s)).map (fun t => (t.sfIdx, t.armedSf)) = some (624, true) := by
  refine ⟨by unfold errorRecordOk; decide +kernel, by unfold cursorOk; decide +kernel, ⟨?_, ?_, ?_⟩, ?_, by decide +kernel⟩
  · exact fun h => absurd h (by decide +kernel)
  · exact fun _ => ⟨623, by decide +kernel⟩
  · exact fun h => absurd h (by decide +kernel)
  · exact fun p h => absurd h (by simp [presenting, lastWord, State.reset])

theorem witness_StepKeepsInvariants_error :
    let s := presenting 0x0A State.reset
    errorRecordOk s ∧ cursorOk s ∧ pendOk s ∧ (nextOf (step s)).map statusWord = some 0x012 := by
  refine ⟨by unfold errorRecordOk; decide +kernel, by unfold cursorOk; decide +kernel, ?_, by decide +kernel⟩
  exact fun p h => absurd h (by simp [presenting, State.reset])

/-- A pending command that a step leaves pending. -/
theorem witness_StepKeepsPendingCommandAccepted :
    pendOk (pendingRefill 2) ∧ (nextOf (step (pendingRefill 2))).map (fun t => t.pend) = some (some ⟨0x17, 0, 1⟩) := by
  refine ⟨fun p h => ?_, by decide +kernel⟩
  cases h
  exact ⟨by decide, .sfmtRefill, by decide, by decide +kernel⟩

/-- 95_test_vectors.md 1.2 and 1.4. -/
theorem test_uniformInt :
    uniformInt .tmt 1 0x97B6D625 = .ok 1 ∧ uniformInt .sfmt 6 0xCD0D0032 = .ok 5
      ∧ uniformInt .xs 0 7 = .error .invalidBound := by decide +kernel

end Sys2Proof.Tests
end

section
/-! The decoder against the opcode map and the error codes (30_encoding.md R106, R107, R110, R111). A command word is
its five fields, so words are compared field by field; what the decoder can answer is said once, in `decode_verdict`. -/

namespace Sys2Proof.Encoding

/-! ### The five fields of a word (R101) -/

/-- R101: the fields cover the whole word. -/
theorem word_ext {v w : U32} (hop : opField v = opField w) (heng : engField v = engField w)
    (hrsv0 : rsv0Field v = rsv0Field w) (hidx : idxField v = idxField w) (hrsv1 : rsv1Field v = rsv1Field w) :
    v = w := by
  simp only [opField, engField, rsv0Field, idxField, rsv1Field, ← BitVec.toNat_inj, BitVec.extractLsb'_toNat,
    Nat.shiftRight_eq_div_pow] at *
  omega

section packWord

variable (op : BitVec 4) (eng : BitVec 2) (idx : BitVec 10)

@[simp] theorem opField_packWord : opField (packWord op eng idx) = op := by
  ext j hj
  interval_cases j <;> simp [opField, packWord]

@[simp] theorem engField_packWord : engField (packWord op eng idx) = eng := by
  ext j hj
  interval_cases j <;> simp [engField, packWord]

@[simp] theorem rsv0Field_packWord : rsv0Field (packWord op eng idx) = 0 := by
  ext j hj
  interval_cases j <;> simp [rsv0Field, packWord]

@[simp] theorem idxField_packWord : idxField (packWord op eng idx) = idx := by
  ext j hj
  interval_cases j <;> simp [idxField, packWord]

@[simp] theorem rsv1Field_packWord : rsv1Field (packWord op eng idx) = 0 := by
  ext j hj
  interval_cases j <;> simp [rsv1Field, packWord]

end packWord

/-- Step 1 of R110 passes: both reserved fields are 0 (R106). -/
def Clean (w : U32) : Prop := rsv0Field w = 0 ∧ rsv1Field w = 0

theorem eq_packWord_of_clean {w : U32} (hw : Clean w) : w = packWord (opField w) (engField w) (idxField w) := by
  obtain ⟨hrsv0, hrsv1⟩ := hw
  apply word_ext <;> simp [hrsv0, hrsv1]

/-! ### OP and ENG values (R102, R103) -/

/-- R102's OP value of an operation. -/
def opCode : Op → BitVec 4
  | .nop => 0x0
  | .clrerr => 0xE
  | .engine .ldw => 0x1
  | .engine .rdw => 0x2
  | .engine .ldp => 0x3
  | .engine .rdp => 0x4
  | .engine .next => 0x5
  | .engine .adv => 0x6
  | .engine .refill => 0x7
  | .engine .cert => 0x8
  | .engine .arm => 0x9
  | .engine .erst => 0xD

/-- R103's ENG value of an engine. -/
def engCode : Engine → BitVec 2
  | .xs => 0
  | .sfmt => 1
  | .tmt => 2

/-- The OP values R107 reserves. -/
def ReservedOp (op : BitVec 4) : Prop := op = 0xA#4 ∨ op = 0xB#4 ∨ op = 0xC#4 ∨ op = 0xF#4

/-- The OP values of NOP and CLRERR (R102). -/
def ControlOp (op : BitVec 4) : Prop := op = 0x0#4 ∨ op = 0xE#4

/-- The OP values of the commands that use IDX (R104). -/
def IndexedOp (op : BitVec 4) : Prop := op = 0x1#4 ∨ op = 0x2#4

/-- The pairs of an operation and an engine outside R102's table (R109). -/
def UnsupportedPair (op : BitVec 4) (eng : BitVec 2) : Prop :=
  (op = 0x7#4 ∧ eng = 0#2) ∨ (op = 0x6#4 ∧ eng = 1#2) ∨ (op = 0x3#4 ∧ eng = 2#2)
    ∨ (op = 0x4#4 ∧ eng = 2#2) ∨ (op = 0x7#4 ∧ eng = 2#2)

theorem opOf_eq_some_iff (v : BitVec 4) (o : Op) : opOf v = some o ↔ v = opCode o := by
  rcases o with _ | _ | op
  · decide +revert
  · decide +revert
  · cases op <;> decide +revert

theorem opOf_eq_none_iff (v : BitVec 4) : opOf v = none ↔ ReservedOp v := by
  unfold ReservedOp
  decide +revert

theorem engineOf_eq_some_iff (v : BitVec 2) (e : Engine) : engineOf v = some e ↔ v = engCode e := by
  cases e <;> decide +revert

theorem engineOf_eq_none_iff (v : BitVec 2) : engineOf v = none ↔ v = 3#2 := by decide +revert

theorem not_reservedOp_opCode (o : Op) : ¬ReservedOp (opCode o) := by
  simp [← opOf_eq_none_iff, (opOf_eq_some_iff _ o).mpr rfl]

theorem not_controlOp_opCode_engine (op : EngineOp) : ¬ControlOp (opCode (.engine op)) := by
  cases op <;> simp [ControlOp, opCode]

theorem engCode_ne_three (e : Engine) : engCode e ≠ 3#2 := by
  cases e <;> decide

theorem not_controlOp_of_reservedOp {v : BitVec 4} (h : ReservedOp v) : ¬ControlOp v := by
  unfold ReservedOp at h
  unfold ControlOp
  decide +revert

/-- An unsupported pair names an operation and an engine that exist. -/
theorem UnsupportedPair.valid {v : BitVec 4} {g : BitVec 2} (h : UnsupportedPair v g) :
    ¬ReservedOp v ∧ ¬ControlOp v ∧ g ≠ 3#2 := by
  unfold UnsupportedPair at h
  unfold ReservedOp ControlOp
  decide +revert

/-! ### What the decoder answers (R110) -/

/-- The answers of R110 steps 1 to 6 on a word, one constructor for each way through the checks. -/
inductive Verdict (w : U32) : Except ErrCode Instr → Prop
  | notClean (hw : ¬Clean w) : Verdict w (.error .rsvdBits)
  | reservedOp (hw : Clean w) (hop : ReservedOp (opField w)) : Verdict w (.error .illegalOp)
  | controlFields (hw : Clean w) (hop : ControlOp (opField w)) (h : engField w ≠ 0#2 ∨ idxField w ≠ 0#10) :
    Verdict w (.error .rsvdBits)
  | control (i : Instr) (hw : Clean w) (hop : ControlOp (opField w)) (heng : engField w = 0#2)
    (hidx : idxField w = 0#10) (henc : encode i = w) : Verdict w (.ok i)
  | reservedEng (hw : Clean w) (hres : ¬ReservedOp (opField w)) (hctl : ¬ControlOp (opField w))
    (heng : engField w = 3#2) : Verdict w (.error .illegalEng)
  | unsupported (hw : Clean w) (hpair : UnsupportedPair (opField w) (engField w)) : Verdict w (.error .opEngine)
  | unusedIndex (hw : Clean w) (hres : ¬ReservedOp (opField w)) (hctl : ¬ControlOp (opField w))
    (heng : engField w ≠ 3#2) (hpair : ¬UnsupportedPair (opField w) (engField w)) (hop : ¬IndexedOp (opField w))
    (hidx : idxField w ≠ 0#10) : Verdict w (.error .rsvdBits)
  | command (i : Instr) (hw : Clean w) (hres : ¬ReservedOp (opField w)) (hctl : ¬ControlOp (opField w))
    (heng : engField w ≠ 3#2) (hpair : ¬UnsupportedPair (opField w) (engField w))
    (hidx : IndexedOp (opField w) ∨ idxField w = 0#10) (henc : encode i = w) : Verdict w (.ok i)

/-- R110 step 3. -/
theorem controlCommand_verdict {w : U32} {i : Instr} (hw : Clean w) (hop : ControlOp (opField w))
    (henc : encode i = packWord (opField w) 0 0) : Verdict w (controlCommand w i) := by
  unfold controlCommand
  split
  next h => exact .controlFields hw hop h
  next h =>
    obtain ⟨heng, hidx⟩ : engField w = 0#2 ∧ idxField w = 0#10 := by simpa [not_or] using h
    refine .control i hw hop heng hidx ?_
    rw [henc, eq_packWord_of_clean hw, heng, hidx]
    simp

/-- R110 steps 5 and 6, for any pair and index: the check that fails, or the word of the command chosen. -/
theorem engineCommand_cases (op : EngineOp) (e : Engine) (idx : BitVec 10) :
    (UnsupportedPair (opCode (.engine op)) (engCode e) ∧ engineCommand op e idx = .error .opEngine)
      ∨ (¬UnsupportedPair (opCode (.engine op)) (engCode e) ∧ ¬IndexedOp (opCode (.engine op)) ∧ idx ≠ 0#10
          ∧ engineCommand op e idx = .error .rsvdBits)
      ∨ (¬UnsupportedPair (opCode (.engine op)) (engCode e) ∧ (IndexedOp (opCode (.engine op)) ∨ idx = 0#10)
          ∧ ∃ i, engineCommand op e idx = .ok i ∧ encode i = packWord (opCode (.engine op)) (engCode e) idx) := by
  by_cases hidx : idx = 0#10 <;> cases op <;> cases e <;>
    simp [hidx, UnsupportedPair, IndexedOp, opCode, engCode, engineCommand, withoutIndex, encode]

/-- R110 steps 5 and 6. -/
theorem engineCommand_verdict {w : U32} {op : EngineOp} {e : Engine} (hw : Clean w)
    (hop : opField w = opCode (.engine op)) (heng : engField w = engCode e) :
    Verdict w (engineCommand op e (idxField w)) := by
  have hres : ¬ReservedOp (opField w) := hop ▸ not_reservedOp_opCode _
  have hctl : ¬ControlOp (opField w) := hop ▸ not_controlOp_opCode_engine op
  have hthree : engField w ≠ 3#2 := heng ▸ engCode_ne_three e
  have hcases := engineCommand_cases op e (idxField w)
  rw [← hop, ← heng, ← eq_packWord_of_clean hw] at hcases
  obtain ⟨hpair, hx⟩ | ⟨hpair, hind, hidx, hx⟩ | ⟨hpair, hidx, i, hx, henc⟩ := hcases <;> rw [hx]
  · exact .unsupported hw hpair
  · exact .unusedIndex hw hres hctl hthree hpair hind hidx
  · exact .command i hw hres hctl hthree hpair hidx henc

theorem decode_verdict (w : U32) : Verdict w (decode w) := by
  unfold decode
  split
  next h => exact .notClean fun hw => h.elim (absurd hw.1) (absurd hw.2)
  next h =>
    have hw : Clean w := by simpa [Clean, not_or] using h
    split
    next hop => exact .reservedOp hw ((opOf_eq_none_iff _).mp hop)
    next hop =>
      rw [opOf_eq_some_iff] at hop
      exact controlCommand_verdict hw (hop ▸ .inl rfl) (hop ▸ rfl)
    next hop =>
      rw [opOf_eq_some_iff] at hop
      exact controlCommand_verdict hw (hop ▸ .inr rfl) (hop ▸ rfl)
    next op hop =>
      rw [opOf_eq_some_iff] at hop
      split
      next heng =>
        exact .reservedEng hw (hop ▸ not_reservedOp_opCode _) (hop ▸ not_controlOp_opCode_engine op)
          ((engineOf_eq_none_iff _).mp heng)
      next e heng => exact engineCommand_verdict hw hop ((engineOf_eq_some_iff _ _).mp heng)

/-! ### Accepted words -/

theorem encode_of_decode {w : U32} {i : Instr} (h : decode w = .ok i) : encode i = w := by
  have hv := decode_verdict w
  rw [h] at hv
  cases hv with
  | control _ _ _ _ _ henc => exact henc
  | command _ _ _ _ _ _ _ henc => exact henc

theorem decode_encode (i : Instr) : decode (encode i) = .ok i := by
  cases i <;> simp [encode, decode, opOf, engineOf, engineCommand, controlCommand, withoutIndex]

/-- R108: each command has exactly one word. -/
theorem decode_eq_ok_iff (w : U32) (i : Instr) : decode w = .ok i ↔ w = encode i :=
  ⟨fun h => (encode_of_decode h).symm, fun h => h ▸ decode_encode i⟩

/-! ### The rows of the opcode map (R111) -/

theorem encode_and_mask (i : Instr) : encode i &&& (opcodeRow i).mask = (opcodeRow i).pattern := by
  cases i with
  | xsLdw k => exact Laws.EncodesItsRow.xsLdw k
  | sfmtLdw k => exact Laws.EncodesItsRow.sfmtLdw k
  | tmtLdw k => exact Laws.EncodesItsRow.tmtLdw k
  | xsRdw k => exact Laws.EncodesItsRow.xsRdw k
  | sfmtRdw k => exact Laws.EncodesItsRow.sfmtRdw k
  | tmtRdw k => exact Laws.EncodesItsRow.tmtRdw k
  | _ => decide

/-- R111 masks IDX out of the row of a command with an index, and nothing out of any other row. -/
theorem opcodeRow_mask (i : Instr) :
    (opcodeRow i).mask = if (indexOperand i).isSome then 0xFFFC00FF else BitVec.allOnes 32 := by
  cases i <;> rfl

theorem idxField_encode {i : Instr} {k : BitVec 10} (h : indexOperand i = some k) : idxField (encode i) = k := by
  cases i <;> simp_all [indexOperand, encode]

section indexMask

variable (w : U32)

theorem opField_and_indexMask : opField (w &&& 0xFFFC00FF) = opField w := by
  rw [opField, BitVec.extractLsb'_and]
  exact BitVec.and_allOnes

theorem engField_and_indexMask : engField (w &&& 0xFFFC00FF) = engField w := by
  rw [engField, BitVec.extractLsb'_and]
  exact BitVec.and_allOnes

theorem rsv0Field_and_indexMask : rsv0Field (w &&& 0xFFFC00FF) = rsv0Field w := by
  rw [rsv0Field, BitVec.extractLsb'_and]
  exact BitVec.and_allOnes

theorem idxField_and_indexMask : idxField (w &&& 0xFFFC00FF) = 0 := by
  rw [idxField, BitVec.extractLsb'_and]
  exact BitVec.and_zero

theorem rsv1Field_and_indexMask : rsv1Field (w &&& 0xFFFC00FF) = rsv1Field w := by
  rw [rsv1Field, BitVec.extractLsb'_and]
  exact BitVec.and_allOnes

end indexMask

/-- Words agree under the mask that leaves IDX out exactly when they agree in the other four fields. -/
theorem and_indexMask_eq_iff (v w : U32) :
    v &&& 0xFFFC00FF = w &&& 0xFFFC00FF ↔
      opField v = opField w ∧ engField v = engField w ∧ rsv0Field v = rsv0Field w ∧ rsv1Field v = rsv1Field w := by
  constructor
  · intro h
    exact ⟨by rw [← opField_and_indexMask v, h, opField_and_indexMask],
      by rw [← engField_and_indexMask v, h, engField_and_indexMask],
      by rw [← rsv0Field_and_indexMask v, h, rsv0Field_and_indexMask],
      by rw [← rsv1Field_and_indexMask v, h, rsv1Field_and_indexMask]⟩
  · rintro ⟨hop, heng, hrsv0, hrsv1⟩
    apply word_ext <;>
      simp only [opField_and_indexMask, engField_and_indexMask, rsv0Field_and_indexMask, idxField_and_indexMask,
        rsv1Field_and_indexMask, hop, heng, hrsv0, hrsv1]

theorem matchesRow_iff (w : U32) (i : Instr) :
    (w &&& (opcodeRow i).mask = (opcodeRow i).pattern ∧ ∀ k, indexOperand i = some k → k = idxField w) ↔
      w = encode i := by
  rw [← encode_and_mask, opcodeRow_mask]
  cases hi : indexOperand i with
  | none => simp [-BitVec.reduceAllOnes]
  | some k =>
    have hk := idxField_encode hi
    simp only [Option.isSome_some, if_true, and_indexMask_eq_iff, Option.some.injEq, forall_eq']
    constructor
    · rintro ⟨⟨hop, heng, hrsv0, hrsv1⟩, hidx⟩
      exact word_ext hop heng hrsv0 (hidx ▸ hk.symm) hrsv1
    · rintro rfl
      simp [hk]

/-- Settles O4: a command has one word (`decode_eq_ok_iff`), and its row with its index is that word alone
(`matchesRow_iff`). -/
theorem decodeMatchesOpcodeMap : Obligations.DecodeMatchesOpcodeMap :=
  fun w i => (decode_eq_ok_iff w i).trans (matchesRow_iff w i).symm

/-! ### Rejected words (R106, R107) -/

/-- Each error code, read off the way through the checks. -/
theorem Verdict.error_iff {w : U32} {r : Except ErrCode Instr} (h : Verdict w r) :
    (r = .error .illegalOp ↔ Clean w ∧ ReservedOp (opField w))
      ∧ (r = .error .illegalEng ↔
          Clean w ∧ ¬ReservedOp (opField w) ∧ ¬ControlOp (opField w) ∧ engField w = 3#2)
      ∧ (r = .error .opEngine ↔ Clean w ∧ UnsupportedPair (opField w) (engField w))
      ∧ (r = .error .rsvdBits ↔
          ¬Clean w ∨ (ControlOp (opField w) ∧ (engField w ≠ 0#2 ∨ idxField w ≠ 0#10))
            ∨ (¬ReservedOp (opField w) ∧ ¬ControlOp (opField w) ∧ engField w ≠ 3#2
              ∧ ¬UnsupportedPair (opField w) (engField w) ∧ ¬IndexedOp (opField w) ∧ idxField w ≠ 0#10))
      ∧ (∀ e, r = .error e → e = .illegalOp ∨ e = .illegalEng ∨ e = .opEngine ∨ e = .rsvdBits) := by
  cases h with
  | notClean hw => simp [hw]
  | reservedOp hw hop =>
    have hpair : ¬UnsupportedPair (opField w) (engField w) := fun hp => hp.valid.1 hop
    simp [hw, hop, hpair, not_controlOp_of_reservedOp hop]
  | controlFields hw hop h =>
    have hres : ¬ReservedOp (opField w) := fun hr => not_controlOp_of_reservedOp hr hop
    have hpair : ¬UnsupportedPair (opField w) (engField w) := fun hp => hp.valid.2.1 hop
    simp [hw, hop, hres, hpair, h, -ne_eq]
  | control i hw hop heng hidx =>
    have hres : ¬ReservedOp (opField w) := fun hr => not_controlOp_of_reservedOp hr hop
    have hpair : ¬UnsupportedPair (opField w) (engField w) := fun hp => hp.valid.2.1 hop
    rw [heng] at hpair
    simp [hw, hop, hres, hpair, heng, hidx]
  | reservedEng hw hres hctl heng =>
    have hpair : ¬UnsupportedPair (opField w) (engField w) := fun hp => hp.valid.2.2 heng
    rw [heng] at hpair
    simp [hw, hres, hctl, hpair, heng]
  | unsupported hw hpair =>
    obtain ⟨hres, hctl, heng⟩ := hpair.valid
    simp [hw, hpair, hres, hctl, heng]
  | unusedIndex hw hres hctl heng hpair hop hidx => simp [hw, hres, hctl, heng, hpair, hop, hidx]
  | command i hw hres hctl heng hpair hidx =>
    rcases hidx with hidx | hidx <;> simp [hw, hres, hctl, heng, hpair, hidx]

/-- Settles O5: every word has a verdict (`decode_verdict`), and the verdict fixes the code (`Verdict.error_iff`). -/
theorem rejectedWordsByFirstFailingCheck : Obligations.RejectedWordsByFirstFailingCheck :=
  fun w => (decode_verdict w).error_iff

end Sys2Proof.Encoding
end

section
/-! The control and state-access commands (40_state_access.md). Every command is its acceptance check and its effect
(`exec_eq_runCommand`), so a command's meaning is settled by what its check answers (`exec_of_pass`,
`failsWith_of_check`). -/

namespace Sys2Proof.StateAccess

open Sys2Proof.Machine Sys2Proof.Encoding

/-! ### The words of the commands (R101, R104, R106) -/

theorem packWord_eq_or_index (op : BitVec 4) (eng : BitVec 2) (k : BitVec 10) :
    packWord op eng k = packWord op eng 0 ||| (k.setWidth 32 <<< 8) := by
  simp [packWord, BitVec.or_comm, BitVec.or_assoc]

theorem encode_eq_pattern_or_index {i : Instr} {k : BitVec 10} (h : indexOperand i = some k) :
    encode i = (opcodeRow i).pattern ||| (k.setWidth 32 <<< 8) := by
  cases i with
  | xsLdw | sfmtLdw | tmtLdw | xsRdw | sfmtRdw | tmtRdw =>
    cases h
    exact packWord_eq_or_index _ _ k
  | _ => cases h

/-- The IDX check of a command without an index, for the operations that need an engine (R110 step 6). -/
theorem rejectsIndex_of_engineCommand {i : Instr} {op : EngineOp} {e : Engine}
    (henc : encode i = packWord (opCode (.engine op)) (engCode e) 0)
    (hcmd : ∀ k, engineCommand op e k = withoutIndex k i) : rejectsIndex i := by
  intro k hk
  have hop := (opOf_eq_some_iff _ _).mpr (rfl : opCode (.engine op) = _)
  have heng := (engineOf_eq_some_iff _ _).mpr (rfl : engCode e = _)
  rw [henc, ← packWord_eq_or_index]
  simpa [decode, hop, heng, hcmd, withoutIndex] using hk

/-- R110 steps 1 and 3: NOP and CLRERR have one word each. -/
theorem decode_of_controlOp {w : U32} (hop : ControlOp (opField w)) (hw : w ≠ packWord (opField w) 0 0) :
    decode w = .error .rsvdBits := by
  obtain ⟨-, -, -, hrsvd, -⟩ := (decode_verdict w).error_iff
  rw [hrsvd]
  by_cases hclean : Clean w
  · refine .inr (.inl ⟨hop, not_and_or.mp ?_⟩)
    rintro ⟨heng, hidx⟩
    have hword := eq_packWord_of_clean hclean
    rw [heng, hidx] at hword
    exact hw hword
  · exact .inl hclean

theorem decode_of_malformed_nop {w : U32} (hop : opField w = 0x0#4) (hw : w ≠ 0x00000000) :
    decode w = .error .rsvdBits :=
  decode_of_controlOp (.inl hop) (hop ▸ hw)

theorem decode_of_malformed_clrerr {w : U32} (hop : opField w = 0xE#4) (hw : w ≠ 0x0000000E) :
    decode w = .error .rsvdBits :=
  decode_of_controlOp (.inr hop) (hop ▸ hw)

/-! ### The error record (60_exceptions.md R302, R303) -/

theorem recordError_of_clear (e : ErrCode) {s : State} (h : s.err = false) :
    recordError e s = { s with err := true, errcode := errNumber e } := by
  simp [recordError, h]

theorem recordError_of_full (e : ErrCode) {s : State} (h : s.err = true) : recordError e s = s := by
  simp [recordError, h]

theorem recordError_emptyPend (e : ErrCode) (s : State) : recordError e (emptyPend s) = failedState e s := by
  cases h : s.err with
  | false => simp [recordError_of_clear, h, failedState, emptyPend]
  | true =>
    rw [recordError_of_full e (s := emptyPend s) h]
    simp [failedState, emptyPend, ← h]

theorem failsWith_of_check {i : Instr} {s : State} {e : ErrCode} (h : acceptCheck i s = some e) :
    failsWith e i s := by
  rw [failsWith, exec_of_error h, recordError_emptyPend]

/-! ### The acceptance checks (R110 steps 6 and 7) -/

theorem checkIndex_of_lt {e : Engine} {k : BitVec 10} (h : k.toNat < indexLimit e) : checkIndex e k = none :=
  if_neg (Nat.not_le.mpr h)

theorem checkIndex_of_le {e : Engine} {k : BitVec 10} (h : indexLimit e ≤ k.toNat) :
    checkIndex e k = some .idxRange :=
  if_pos h

theorem checkTmtLdwIndex_of_status {k : BitVec 10} (h : k.toNat < 4) : checkTmtLdwIndex k = none := by
  have hlimit : k.toNat < indexLimit .tmt := Nat.lt_trans h (by decide)
  simp [checkTmtLdwIndex, Nat.not_le.mpr hlimit, h]

theorem checkTmtLdwIndex_of_matrix {k : BitVec 10} (h4 : 4 ≤ k.toNat) (h7 : k.toNat < 7) :
    checkTmtLdwIndex k = some .readOnly := by
  simp [checkTmtLdwIndex, indexLimit, h4, h7]

theorem checkTmtLdwIndex_of_le {k : BitVec 10} (h : 7 ≤ k.toNat) : checkTmtLdwIndex k = some .idxRange :=
  if_pos h

theorem checkValue_of_le {largest : U64} {s : State} (h : (operandDin s).toNat ≤ largest.toNat) :
    checkValue largest s = none :=
  if_neg (Nat.not_lt.mpr h)

theorem checkValue_of_lt {largest : U64} {s : State} (h : largest.toNat < (operandDin s).toNat) :
    checkValue largest s = some .badValue :=
  if_pos h

/-! ### The words read (R137, R140, R141) -/

theorem tmtWord_of_lt (s : State) {k : Nat} (h : k < 4) : tmtWord k s = readWord s.tmS k := by
  unfold tmtWord
  split
  · omega
  · omega
  · omega
  · rfl

theorem zext64_eq_ofNat {w : Nat} (v : BitVec w) : zext64 v = BitVec.ofNat 64 v.toNat :=
  (BitVec.ofNat_toNat 64 v).symm

theorem extractLsb'_zero_eq_ofNat {w : Nat} (n : Nat) (v : BitVec w) :
    v.extractLsb' 0 n = BitVec.ofNat n v.toNat := rfl

/-! ### Presenting a command (20_memory.md R78) -/

theorem inWindow_base (cfg : Params) : inWindow cfg cfg.base = true := by simp [inWindow]

theorem trunc32_setWidth (w : U32) : trunc32 (w.setWidth 64) = w := by
  rw [trunc32, extractLsb'_zero_eq_ofNat, BitVec.toNat_setWidth_of_le (by decide), BitVec.ofNat_toNat,
    BitVec.setWidth_eq]

/-- A legal CMD write presents its low 32 bits. -/
theorem hostAccess_write_cmd (v : U64) (s : State) :
    hostAccess (.write s.cfg.base 4 v) s = .next (presentCommand (trunc32 v) s) := by
  simp [hostAccess, inWindow_base, writeAccess, writeWindow]

theorem presentCommand_of_busy (c : U32) {s : State} (h : s.pend.isSome = true) :
    presentCommand c s = recordError .busy s :=
  if_pos h

theorem presentCommand_of_decode_error {c : U32} {s : State} {e : ErrCode} (hp : s.pend = none)
    (hd : decode c = .error e) : presentCommand c s = recordError e s := by
  simp [presentCommand, busy, hp, hd]

/-! ### The obligations -/

/-- Settles O7: the load is the effect of a passing index check, and the three ranges are the check's three answers. -/
theorem loadWordCommandsRun : Obligations.LoadWordCommandsRun := by
  refine ⟨fun k => ⟨?_, ?_, ?_⟩, fun k s h => ?_, fun k s h => ?_, fun k s h => ?_, fun k s h => ?_,
    fun k s h => ?_, fun k s h4 h7 => ?_, fun k s h => ?_⟩
  · exact encode_eq_pattern_or_index (i := .xsLdw k) rfl
  · exact encode_eq_pattern_or_index (i := .sfmtLdw k) rfl
  · exact encode_eq_pattern_or_index (i := .tmtLdw k) rfl
  · exact exec_of_pass (i := .xsLdw k) (checkIndex_of_lt h)
  · exact failsWith_of_check (i := .xsLdw k) (checkIndex_of_le h)
  · exact exec_of_pass (i := .sfmtLdw k) (checkIndex_of_lt h)
  · exact failsWith_of_check (i := .sfmtLdw k) (checkIndex_of_le h)
  · exact exec_of_pass (i := .tmtLdw k) (checkTmtLdwIndex_of_status h)
  · exact failsWith_of_check (i := .tmtLdw k) (checkTmtLdwIndex_of_matrix h4 h7)
  · exact failsWith_of_check (i := .tmtLdw k) (checkTmtLdwIndex_of_le h)

/-- Settles O8: the read is the effect of a passing index check, past the limit the check fails; TMT's indices 0 to 3
are the status words (`tmtWord_of_lt`), 4 to 6 the matrix words by definition. -/
theorem readWordCommandsRun : Obligations.ReadWordCommandsRun := by
  refine ⟨fun k => ⟨?_, ?_, ?_⟩, fun k s h => ?_, fun k s h => ?_, fun k s h => ?_, fun k s h => ?_,
    fun k s h => ?_, fun s => ?_, fun s => ?_, fun s => ?_, fun k s h => ?_⟩
  · exact encode_eq_pattern_or_index (i := .xsRdw k) rfl
  · exact encode_eq_pattern_or_index (i := .sfmtRdw k) rfl
  · exact encode_eq_pattern_or_index (i := .tmtRdw k) rfl
  · exact exec_of_pass (i := .xsRdw k) (checkIndex_of_lt h)
  · exact failsWith_of_check (i := .xsRdw k) (checkIndex_of_le h)
  · exact exec_of_pass (i := .sfmtRdw k) (checkIndex_of_lt h)
  · exact failsWith_of_check (i := .sfmtRdw k) (checkIndex_of_le h)
  · have hlimit : k.toNat < indexLimit .tmt := Nat.lt_trans h (by decide)
    rw [← tmtWord_of_lt s h]
    exact exec_of_pass (i := .tmtRdw k) (checkIndex_of_lt hlimit)
  · exact exec_of_pass (i := .tmtRdw 4) rfl
  · exact exec_of_pass (i := .tmtRdw 5) rfl
  · exact exec_of_pass (i := .tmtRdw 6) rfl
  · exact failsWith_of_check (i := .tmtRdw k) (checkIndex_of_le h)

/-- Settles O9: the operand check compares all 64 bits, so the bits LDP keeps are the whole operand. -/
theorem pointerAndCursorCommandsRun : Obligations.PointerAndCursorCommandsRun := by
  refine ⟨⟨rfl, rfl, rfl, rfl⟩, ⟨?_, ?_, ?_, ?_⟩, fun s h => ?_, fun s h => ?_, fun s h => ?_, fun s h => ?_,
    fun s => ?_, fun s => ?_⟩
  · exact rejectsIndex_of_engineCommand (op := .ldp) (e := .xs) rfl fun _ => rfl
  · exact rejectsIndex_of_engineCommand (op := .ldp) (e := .sfmt) rfl fun _ => rfl
  · exact rejectsIndex_of_engineCommand (op := .rdp) (e := .xs) rfl fun _ => rfl
  · exact rejectsIndex_of_engineCommand (op := .rdp) (e := .sfmt) rfl fun _ => rfl
  · rw [← extractLsb'_zero_eq_ofNat]
    exact exec_of_pass (i := .xsLdp) (checkValue_of_le h)
  · exact failsWith_of_check (i := .xsLdp) (checkValue_of_lt h)
  · rw [← extractLsb'_zero_eq_ofNat]
    exact exec_of_pass (i := .sfmtLdp) (checkValue_of_le h)
  · exact failsWith_of_check (i := .sfmtLdp) (checkValue_of_lt h)
  · rw [← zext64_eq_ofNat]
    exact exec_of_pass (i := .xsRdp) rfl
  · rw [← zext64_eq_ofNat]
    exact exec_of_pass (i := .sfmtRdp) rfl

/-- Settles O6: a word of OP 0x0 or 0xE with any other bit set fails R110 step 1 or 3 (`decode_of_controlOp`), and a
presented word that does not decode, or comes too early, only records its error. -/
theorem controlCommandsRun : Obligations.ControlCommandsRun := by
  refine ⟨⟨rfl, rfl⟩, fun w => decode_of_malformed_nop, fun w => decode_of_malformed_clrerr, fun s => ?_, fun s => ?_,
    fun s w hp hw => ?_, fun s hp => ⟨?_, ?_⟩, fun e s => recordError_of_clear e, fun e s => recordError_of_full e⟩
  · exact exec_of_pass (i := .nop) rfl
  · exact exec_of_pass (i := .clrerr) rfl
  · have hd : decode w = .error .rsvdBits :=
      hw.elim (fun ⟨hop, hne⟩ => decode_of_malformed_nop hop hne)
        (fun ⟨hop, hne⟩ => decode_of_malformed_clrerr hop hne)
    rw [hostAccess_write_cmd, trunc32_setWidth, presentCommand_of_decode_error hp hd]
  · rw [hostAccess_write_cmd, presentCommand_of_busy _ hp]
  · rw [hostAccess_write_cmd, presentCommand_of_busy _ hp]

/-- Settles O10: no ERST has an acceptance check, so each always takes its effect. -/
theorem engineResetCommandsRun : Obligations.EngineResetCommandsRun := by
  refine ⟨⟨rfl, rfl, rfl⟩, ⟨?_, ?_, ?_⟩, fun s => ?_, fun s => ?_, fun s => ?_⟩
  · exact rejectsIndex_of_engineCommand (op := .erst) (e := .xs) rfl fun _ => rfl
  · exact rejectsIndex_of_engineCommand (op := .erst) (e := .sfmt) rfl fun _ => rfl
  · exact rejectsIndex_of_engineCommand (op := .erst) (e := .tmt) rfl fun _ => rfl
  · exact exec_of_pass (i := .xsErst) rfl
  · exact exec_of_pass (i := .sfmtErst) rfl
  · exact exec_of_pass (i := .tmtErst) rfl

end Sys2Proof.StateAccess
end

section
/-! The xorshift1024* engine and its commands (41_xorshift1024.md). The step writes one slot, by a map that is linear
in both words it reads and injective in the one it replaces; the commands are their checks and their effects. -/

namespace Sys2Proof.Xorshift

open Sys2Proof.Machine Sys2Proof.StateAccess

/-! ### A word XORed with a shift of itself (R172)

Both maps are linear, and a word they send to zero equals its own shift, so is zero. -/

section xorShift
variable {w n : Nat}

theorem xor_xor_xor_comm (a b c d : BitVec w) : (a ^^^ b) ^^^ (c ^^^ d) = (a ^^^ c) ^^^ (b ^^^ d) := by
  ac_rfl

theorem xor_ushiftRight_linear (x y : BitVec w) :
    (x ^^^ y) ^^^ ((x ^^^ y) >>> n) = (x ^^^ (x >>> n)) ^^^ (y ^^^ (y >>> n)) := by
  rw [BitVec.ushiftRight_xor_distrib, xor_xor_xor_comm]

theorem xor_shiftLeft_linear (x y : BitVec w) :
    (x ^^^ y) ^^^ ((x ^^^ y) <<< n) = (x ^^^ (x <<< n)) ^^^ (y ^^^ (y <<< n)) := by
  rw [BitVec.shiftLeft_xor_distrib, xor_xor_xor_comm]

/-- Shifted right, a word other than zero gets smaller. -/
theorem eq_zero_of_eq_ushiftRight (hn : 0 < n) {z : BitVec w} (h : z = z >>> n) : z = 0#w := by
  have hdiv : z.toNat = z.toNat / 2 ^ n := by
    rw [← Nat.shiftRight_eq_div_pow, ← BitVec.toNat_ushiftRight, ← h]
  by_contra hne
  have hpos : 0 < z.toNat := BitVec.toNat_pos_of_ne_zero hne
  exact (Nat.div_lt_self hpos (Nat.one_lt_two_pow hn.ne')).ne' hdiv

/-- Shifted left, a word has each of its bits from a lower one, and none comes in at the bottom. -/
theorem eq_zero_of_eq_shiftLeft (hn : 0 < n) {z : BitVec w} (h : z = z <<< n) : z = 0#w := by
  have hbit : ∀ k, z.getLsbD k = false := by
    intro k
    induction k using Nat.strong_induction_on with
    | _ k ih =>
      rw [h, BitVec.getLsbD_shiftLeft]
      by_cases hk : k < n
      · simp [hk]
      · simp [ih (k - n) (by omega)]
  exact BitVec.eq_of_getLsbD_eq fun k _ => by simp [hbit k]

theorem xor_ushiftRight_injective (hn : 0 < n) : Function.Injective fun x : BitVec w => x ^^^ (x >>> n) := by
  intro x y h
  have hzero := (xor_ushiftRight_linear x y).trans (BitVec.xor_eq_zero_iff.mpr h)
  exact BitVec.xor_eq_zero_iff.mp (eq_zero_of_eq_ushiftRight hn (BitVec.xor_eq_zero_iff.mp hzero))

theorem xor_shiftLeft_injective (hn : 0 < n) : Function.Injective fun x : BitVec w => x ^^^ (x <<< n) := by
  intro x y h
  have hzero := (xor_shiftLeft_linear x y).trans (BitVec.xor_eq_zero_iff.mpr h)
  exact BitVec.xor_eq_zero_iff.mp (eq_zero_of_eq_shiftLeft hn (BitVec.xor_eq_zero_iff.mp hzero))

end xorShift

/-! ### The new word (R171) -/

theorem xsNewWord_eq (s0 s1 : U64) :
    xsNewWord s0 s1 =
      (s0 ^^^ (s0 >>> 30)) ^^^ ((s1 ^^^ (s1 <<< 31)) ^^^ ((s1 ^^^ (s1 <<< 31)) >>> 11)) := rfl

theorem xsNewWord_xor (s0 s1 t0 t1 : U64) :
    xsNewWord (s0 ^^^ t0) (s1 ^^^ t1) = xsNewWord s0 s1 ^^^ xsNewWord t0 t1 := by
  simp only [xsNewWord_eq, xor_ushiftRight_linear, xor_shiftLeft_linear]
  exact xor_xor_xor_comm _ _ _ _

theorem xsNewWord_zero : xsNewWord 0 0 = 0 := rfl

theorem xsNewWord_right_injective (s0 : U64) : Function.Injective (xsNewWord s0) := by
  intro s1 t1 h
  have houter := (BitVec.xor_right_inj _).mp h
  exact xor_shiftLeft_injective (by decide) (xor_ushiftRight_injective (by decide) houter)

/-! ### The step (R171, R172) -/

theorem toNat_nextPointer (p : BitVec 4) : (p + 1).toNat = (p.toNat + 1) % 16 := BitVec.toNat_add p 1

theorem nextPointer_ne (p : BitVec 4) : (p + 1).toNat ≠ p.toNat := by
  rw [toNat_nextPointer]
  omega

theorem readWord_xsStep_new (ring : Vector U64 16) (p : BitVec 4) :
    readWord (xsStep ring p).1 (p + 1).toNat =
      xsNewWord (readWord ring p.toNat) (readWord ring (p + 1).toNat) := by
  rw [readWord_xsStep, if_pos rfl]

theorem readWord_xsStep_other (ring : Vector U64 16) (p : BitVec 4) {k : Nat} (h : (p + 1).toNat ≠ k) :
    readWord (xsStep ring p).1 k = readWord ring k := by
  rw [readWord_xsStep, if_neg h]

/-- s0 stays in slot p, so it can be taken away from the new word, and s1 recovered. -/
theorem xsStep_injective (p : BitVec 4) : Function.Injective fun ring => (xsStep ring p).1 := by
  intro ring ring' h
  have hword (k : Nat) : readWord (xsStep ring p).1 k = readWord (xsStep ring' p).1 k :=
    congrArg (readWord · k) h
  have hother {k : Nat} (hk : (p + 1).toNat ≠ k) : readWord ring k = readWord ring' k := by
    simpa only [readWord_xsStep_other _ p hk] using hword k
  have hnew := hword (p + 1).toNat
  rw [readWord_xsStep_new, readWord_xsStep_new, hother (nextPointer_ne p)] at hnew
  apply bank_ext
  intro k _
  by_cases hk : (p + 1).toNat = k
  · exact hk ▸ xsNewWord_right_injective _ hnew
  · exact hother hk

theorem readWord_zipWith_xor {w n : Nat} (a b : Vector (BitVec w) n) (k : Nat) :
    readWord (Vector.zipWith (· ^^^ ·) a b) k = readWord a k ^^^ readWord b k := by
  by_cases hk : k < n
  · simp [readWord_of_lt, hk]
  · simp [readWord_of_le, Nat.le_of_not_lt hk]

theorem xsStep_xor (ring ring' : Vector U64 16) (p : BitVec 4) :
    (xsStep (Vector.zipWith (· ^^^ ·) ring ring') p).1
      = Vector.zipWith (· ^^^ ·) (xsStep ring p).1 (xsStep ring' p).1 := by
  apply bank_ext
  intro k _
  rw [readWord_zipWith_xor]
  by_cases hk : (p + 1).toNat = k
  · subst hk
    simp only [readWord_xsStep_new, readWord_zipWith_xor, xsNewWord_xor]
  · simp only [readWord_xsStep_other _ p hk, readWord_zipWith_xor]

theorem xsStep_zero (p : BitVec 4) : (xsStep (Vector.replicate 16 0) p).1 = Vector.replicate 16 0 := by
  apply bank_ext
  intro k _
  by_cases hk : (p + 1).toNat = k
  · subst hk
    have hzero (k : Nat) : readWord (Vector.replicate 16 (0 : U64)) k = 0 := readWord_replicate_zero k
    rw [readWord_xsStep_new, hzero, hzero, xsNewWord_zero]
  · rw [readWord_xsStep_other _ p hk]

/-! ### The acceptance checks (R110 steps 8 and 9) -/

theorem checkArmed_of_armed {e : Engine} {s : State} (h : armed e s = true) : checkArmed e s = none :=
  if_pos h

theorem checkArmed_of_unarmed {e : Engine} {s : State} (h : armed e s = false) :
    checkArmed e s = some .notArmed := by
  simp [checkArmed, h]

theorem checkNonzero_of_nonzero {e : Engine} {s : State} (h : zeroState e s = false) :
    checkNonzero e s = none := by
  simp [checkNonzero, h]

theorem checkNonzero_of_zero {e : Engine} {s : State} (h : zeroState e s = true) :
    checkNonzero e s = some .degenerate :=
  if_pos h

/-! ### The obligations -/

/-- Settles O13: the step is injective (`xsStep_injective`) and linear (`xsStep_xor`), and fixes the zero ring
(`xsStep_zero`), which is therefore the only ring that steps to zero. -/
theorem xsStepKeepsNonzeroRings : Obligations.XsStepKeepsNonzeroRings := by
  refine fun p => ⟨fun ring ring' h => xsStep_injective p h, fun ring ring' => xsStep_xor ring ring' p,
    fun ring => ⟨fun h => ?_, fun h => ?_⟩⟩
  · exact xsStep_injective p (h.trans (xsStep_zero p).symm)
  · rw [h, xsStep_zero]

/-- Settles O15: NEXT and ADV are their effects where the ARMED check passes, and fail with its code where not. -/
theorem xsAdvanceCommandsRun : Obligations.XsAdvanceCommandsRun := by
  refine ⟨⟨rfl, rfl⟩, ⟨?_, ?_⟩, fun s h => ?_, fun s h => ?_, fun s h => ⟨?_, ?_⟩⟩
  · exact rejectsIndex_of_engineCommand (op := .next) (e := .xs) rfl fun _ => rfl
  · exact rejectsIndex_of_engineCommand (op := .adv) (e := .xs) rfl fun _ => rfl
  · exact exec_of_pass (i := .xsNext) (checkArmed_of_armed h)
  · exact exec_of_pass (i := .xsAdv) (checkArmed_of_armed h)
  · exact failsWith_of_check (i := .xsNext) (checkArmed_of_unarmed h)
  · exact failsWith_of_check (i := .xsAdv) (checkArmed_of_unarmed h)

/-- Settles O16: a nonzero slot is what the check of the whole ring looks for (`allZero_eq_false_iff`). -/
theorem xsCertifyCommandsRun : Obligations.XsCertifyCommandsRun := by
  refine ⟨⟨rfl, rfl⟩, ⟨?_, ?_⟩, fun s h => ?_, fun s h => ?_⟩
  · exact rejectsIndex_of_engineCommand (op := .cert) (e := .xs) rfl fun _ => rfl
  · exact rejectsIndex_of_engineCommand (op := .arm) (e := .xs) rfl fun _ => rfl
  · have hcheck : checkNonzero .xs s = none := checkNonzero_of_nonzero ((allZero_eq_false_iff s.xsW).mpr h)
    exact ⟨exec_of_pass (i := .xsCert) hcheck, exec_of_pass (i := .xsArm) hcheck⟩
  · have hcheck : checkNonzero .xs s = some .degenerate := checkNonzero_of_zero ((allZero_iff s.xsW).mpr h)
    exact ⟨failsWith_of_check (i := .xsCert) hcheck, failsWith_of_check (i := .xsArm) hcheck⟩

/-- Settles O12: the 4-bit pointer's increment is the one modulo 16 (`toNat_nextPointer`), and the step reads the two
words of the recurrence and writes the second. -/
theorem xsStepFollowsRecurrence : Obligations.XsStepFollowsRecurrence := by
  intro ring p
  rw [← toNat_nextPointer p]
  exact ⟨rfl, rfl, readWord_xsStep_new ring p, fun k _ hk => readWord_xsStep_other ring p hk.symm⟩

/-- Settles O14: a product of 64-bit words is the product of their values modulo 2^64, and the factor is the spec's
decimal constant. -/
theorem xsOutputIsLowProduct : Obligations.XsOutputIsLowProduct :=
  fun nw => BitVec.toNat_mul nw xsMult

end Sys2Proof.Xorshift
end

section
/-! The SFMT-19937 engine and its commands (42_sfmt19937.md). A buffer is read lane by lane, and a lane sub-word by
sub-word. The refill writes one lane at a time from lanes it has kept, so each lane's recurrence and each property of
the pass come from those of one assignment. -/

namespace Sys2Proof.SfmtEngine

open Sys2Proof.Machine Sys2Proof.Encoding Sys2Proof.StateAccess Sys2Proof.Xorshift

/-! ### Lanes and their sub-words (R201) -/

theorem extractLsb'_append_add {v : Nat} (x : BitVec v) (y : U32) (n : Nat) :
    (x ++ y).extractLsb' (n + 32) 32 = x.extractLsb' n 32 :=
  BitVec.extractLsb'_append_eq_of_le (Nat.le_add_left 32 n)

theorem subWord_append (word : Nat → U32) {m : Nat} (hm : m < 4) :
    subWord (word 3 ++ word 2 ++ word 1 ++ word 0) m = word m := by
  unfold subWord
  interval_cases m
  · exact BitVec.extractLsb'_append_eq_right
  · exact (extractLsb'_append_add _ _ 0).trans BitVec.extractLsb'_append_eq_right
  · exact (extractLsb'_append_add _ _ 32).trans
      ((extractLsb'_append_add _ _ 0).trans BitVec.extractLsb'_append_eq_right)
  · exact (extractLsb'_append_add _ _ 64).trans
      ((extractLsb'_append_add _ _ 32).trans BitVec.extractLsb'_append_eq_left)

theorem lane_ext {x y : U128} (h : ∀ m, m < 4 → subWord x m = subWord y m) : x = y := by
  apply BitVec.eq_of_getLsbD_eq
  intro k hk
  have hword := congrArg (·.getLsbD (k % 32)) (h (k / 32) (by omega))
  simpa [subWord, Nat.mod_lt, Nat.div_add_mod] using hword

theorem subWord_laneOf (words : Vector U32 624) (j : Nat) {m : Nat} (hm : m < 4) :
    subWord (laneOf words j) m = readWord words (4 * j + m) :=
  subWord_append (fun m => readWord words (4 * j + m)) hm

theorem toNat_append_eq_add {v w : Nat} (x : BitVec v) (y : BitVec w) :
    (x ++ y).toNat = y.toNat + x.toNat * 2 ^ w := by
  rw [BitVec.toNat_append, ← Nat.shiftLeft_add_eq_or_of_lt y.isLt, Nat.shiftLeft_eq, Nat.add_comm]

theorem toNat_laneOf (words : Vector U32 624) (j : Nat) :
    (laneOf words j).toNat
      = (readWord words (4 * j)).toNat + (readWord words (4 * j + 1)).toNat * 2 ^ 32
        + (readWord words (4 * j + 2)).toNat * 2 ^ 64 + (readWord words (4 * j + 3)).toNat * 2 ^ 96 := by
  simp only [laneOf, toNat_append_eq_add]
  omega

/-- Output word k is sub-word k mod 4 of lane k div 4. -/
theorem readWord_eq_subWord (words : Vector U32 624) (k : Nat) :
    readWord words k = subWord (laneOf words (k / 4)) (k % 4) := by
  rw [subWord_laneOf words _ (Nat.mod_lt k (by decide)), Nat.div_add_mod]

theorem buffer_ext {a b : Vector U32 624} (h : ∀ j, j < 156 → laneOf a j = laneOf b j) : a = b := by
  apply bank_ext
  intro k hk
  rw [readWord_eq_subWord, readWord_eq_subWord, h (k / 4) (by omega)]

theorem laneOf_writeLane (words : Vector U32 624) {j k : Nat} (hk : k < 156) (x : U128) :
    laneOf (writeLane words j x) k = if k = j then x else laneOf words k := by
  apply lane_ext
  intro m hm
  have hdiv : (4 * k + m) / 4 = k := by omega
  have hmod : (4 * k + m) % 4 = m := by omega
  rw [subWord_laneOf _ _ hm, readWord_writeLane _ _ _ _ (by omega), hdiv, hmod]
  split
  · rfl
  · exact (subWord_laneOf _ _ hm).symm

/-! ### The new lane (R202, R203) -/

theorem subWord_sfRec (msk : Vector U32 4) (a b c d : U128) {m : Nat} (hm : m < 4) :
    subWord (sfRec msk a b c d) m = sfRecWord msk a b c d m :=
  subWord_append (sfRecWord msk a b c d) hm

theorem subWord_xor (x y : U128) (m : Nat) : subWord (x ^^^ y) m = subWord x m ^^^ subWord y m :=
  BitVec.extractLsb'_xor

theorem lshift128_xor (x y : U128) (n : Nat) : lshift128 (x ^^^ y) n = lshift128 x n ^^^ lshift128 y n :=
  BitVec.shiftLeft_xor_distrib x y (8 * n)

theorem rshift128_xor (x y : U128) (n : Nat) : rshift128 (x ^^^ y) n = rshift128 x n ^^^ rshift128 y n :=
  BitVec.ushiftRight_xor_distrib x y (8 * n)

theorem xor_and_distrib {w : Nat} (x y z : BitVec w) : (x ^^^ y) &&& z = (x &&& z) ^^^ (y &&& z) := by
  ext k
  simp [Bool.and_xor_distrib_right]

theorem sfRecWord_xor (msk : Vector U32 4) (a b c d a' b' c' d' : U128) (m : Nat) :
    sfRecWord msk (a ^^^ a') (b ^^^ b') (c ^^^ c') (d ^^^ d') m
      = sfRecWord msk a b c d m ^^^ sfRecWord msk a' b' c' d' m := by
  simp only [sfRecWord, subWord_xor, lshift128_xor, rshift128_xor, BitVec.shiftLeft_xor_distrib,
    BitVec.ushiftRight_xor_distrib, xor_and_distrib]
  grind

/-- The recurrence is linear in its four lanes together (R212). -/
theorem sfRec_xor (msk : Vector U32 4) (a b c d a' b' c' d' : U128) :
    sfRec msk (a ^^^ a') (b ^^^ b') (c ^^^ c') (d ^^^ d') = sfRec msk a b c d ^^^ sfRec msk a' b' c' d' := by
  apply lane_ext
  intro m hm
  simp only [subWord_xor, subWord_sfRec _ _ _ _ _ hm, sfRecWord_xor]

/-- The replaced lane enters the new one XORed with its own byte shift. -/
theorem sfRec_eq_xor (msk : Vector U32 4) (a b c d : U128) :
    sfRec msk a b c d = (a ^^^ (a <<< 8)) ^^^ sfRec msk 0 b c d := by
  apply lane_ext
  intro m hm
  simp only [subWord_xor, subWord_sfRec _ _ _ _ _ hm]
  simp [sfRecWord, lshift128, subWord, BitVec.xor_assoc]

/-- From a new lane and the three lanes beside it the replaced lane can be recovered (R212). -/
theorem sfRec_injective (msk : Vector U32 4) (b c d : U128) : Function.Injective fun a => sfRec msk a b c d := by
  intro a a' h
  simp only [sfRec_eq_xor msk a, sfRec_eq_xor msk a'] at h
  exact xor_shiftLeft_injective (by decide) ((BitVec.xor_left_inj _).mp h)

/-! ### One assignment of the pass (R204, R205) -/

theorem laneOf_sfRefillLane_same (msk : Vector U32 4) (words : Vector U32 624) {i : Nat} (hi : i < 156) :
    laneOf (sfRefillLane msk words i) i =
      sfRec msk (laneOf words i) (laneOf words ((i + 122) % 156)) (laneOf words ((i + 154) % 156))
        (laneOf words ((i + 155) % 156)) :=
  (laneOf_writeLane words hi _).trans (if_pos rfl)

theorem laneOf_sfRefillLane_other (msk : Vector U32 4) (words : Vector U32 624) {i k : Nat} (hk : k < 156)
    (hne : k ≠ i) : laneOf (sfRefillLane msk words i) k = laneOf words k :=
  (laneOf_writeLane words hk _).trans (if_neg hne)

theorem laneOf_zipWith_xor (words words' : Vector U32 624) (j : Nat) :
    laneOf (Vector.zipWith (· ^^^ ·) words words') j = laneOf words j ^^^ laneOf words' j := by
  apply lane_ext
  intro m hm
  simp only [subWord_xor, subWord_laneOf _ _ hm, readWord_zipWith_xor]

theorem sfRefillLane_xor (msk : Vector U32 4) (words words' : Vector U32 624) (i : Nat) :
    sfRefillLane msk (Vector.zipWith (· ^^^ ·) words words') i
      = Vector.zipWith (· ^^^ ·) (sfRefillLane msk words i) (sfRefillLane msk words' i) := by
  apply buffer_ext
  intro k hk
  rw [laneOf_zipWith_xor]
  by_cases hki : k = i
  · subst hki
    simp only [laneOf_sfRefillLane_same _ _ hk, laneOf_zipWith_xor, sfRec_xor]
  · simp only [laneOf_sfRefillLane_other _ _ hk hki, laneOf_zipWith_xor]

/-- An assignment keeps the three lanes it reads beside its own, so it can be undone. -/
theorem sfRefillLane_injective (msk : Vector U32 4) {i : Nat} (hi : i < 156) :
    Function.Injective fun words => sfRefillLane msk words i := by
  intro words words' h
  have hlane (k : Nat) : laneOf (sfRefillLane msk words i) k = laneOf (sfRefillLane msk words' i) k :=
    congrArg (laneOf · k) h
  have hother {k : Nat} (hk : k < 156) (hne : k ≠ i) : laneOf words k = laneOf words' k := by
    simpa only [laneOf_sfRefillLane_other _ _ hk hne] using hlane k
  have hnew := hlane i
  rw [laneOf_sfRefillLane_same _ _ hi, laneOf_sfRefillLane_same _ _ hi,
    hother (k := (i + 122) % 156) (by omega) (by omega), hother (k := (i + 154) % 156) (by omega) (by omega),
    hother (k := (i + 155) % 156) (by omega) (by omega)] at hnew
  apply buffer_ext
  intro k hk
  by_cases hki : k = i
  · exact hki ▸ sfRec_injective msk _ _ _ hnew
  · exact hother hk hki

/-! ### The pass (R205) -/

/-- The buffer after the first `n` assignments of the refill. -/
def refillLanes (msk : Vector U32 4) (words : Vector U32 624) (n : Nat) : Vector U32 624 :=
  (List.range n).foldl (sfRefillLane msk) words

theorem refillLanes_zero (msk : Vector U32 4) (words : Vector U32 624) : refillLanes msk words 0 = words := rfl

theorem refillLanes_succ (msk : Vector U32 4) (words : Vector U32 624) (n : Nat) :
    refillLanes msk words (n + 1) = sfRefillLane msk (refillLanes msk words n) n := by
  simp [refillLanes, List.range_succ]

theorem sfRefill_eq_refillLanes (msk : Vector U32 4) (words : Vector U32 624) :
    sfRefill msk words = refillLanes msk words 156 :=
  sfRefill_eq_foldl msk words

/-- Between `n` and `n'` assignments, the lanes outside n..n'-1 stand as they are. -/
theorem laneOf_refillLanes_eq (msk : Vector U32 4) (words : Vector U32 624) {n n' k : Nat} (hk : k < 156)
    (hn : n ≤ n') (hout : k < n ∨ n' ≤ k) :
    laneOf (refillLanes msk words n') k = laneOf (refillLanes msk words n) k := by
  induction n', hn using Nat.le_induction with
  | base => rfl
  | succ n' hn ih => rw [refillLanes_succ, laneOf_sfRefillLane_other _ _ hk (by omega), ih (by omega)]

/-- Part of the way through the pass, a lane is the old one or already the new one. -/
theorem laneOf_refillLanes (msk : Vector U32 4) (words : Vector U32 624) {n k : Nat} (hn : n ≤ 156) (hk : k < 156) :
    laneOf (refillLanes msk words n) k = if k < n then laneOf (sfRefill msk words) k else laneOf words k := by
  split
  next h => rw [sfRefill_eq_refillLanes, laneOf_refillLanes_eq msk words hk hn (.inl h)]
  next h => rw [laneOf_refillLanes_eq msk words hk n.zero_le (.inr (Nat.le_of_not_lt h)), refillLanes_zero]

/-- The lane `back` places behind lane i in the ring, as assignment i reads it: an old lane while the ring wraps
around, and after that a lane of the same pass. -/
theorem laneOf_refillLanes_behind (msk : Vector U32 4) (words : Vector U32 624) {i back : Nat} (hi : i < 156)
    (h0 : 0 < back) (hback : back ≤ 156) :
    laneOf (refillLanes msk words i) ((i + (156 - back)) % 156) =
      if i < back then laneOf words (i + (156 - back)) else laneOf (sfRefill msk words) (i - back) := by
  rw [laneOf_refillLanes msk words hi.le (Nat.mod_lt _ (by decide))]
  by_cases h : i < back
  · have hpos : (i + (156 - back)) % 156 = i + (156 - back) := Nat.mod_eq_of_lt (by omega)
    rw [hpos, if_neg (by omega), if_pos h]
  · have hpos : (i + (156 - back)) % 156 = i - back := by omega
    rw [hpos, if_pos (by omega), if_neg h]

theorem laneOf_sfRefill (msk : Vector U32 4) (words : Vector U32 624) {i : Nat} (hi : i < 156) :
    laneOf (sfRefill msk words) i =
      sfRec msk (laneOf words i)
        (if i < 34 then laneOf words (i + 122) else laneOf (sfRefill msk words) (i - 34))
        (if i < 2 then laneOf words (i + 154) else laneOf (sfRefill msk words) (i - 2))
        (if i < 1 then laneOf words (i + 155) else laneOf (sfRefill msk words) (i - 1)) := by
  have hstart : laneOf (refillLanes msk words i) i = laneOf words i := by
    rw [laneOf_refillLanes msk words hi.le hi, if_neg (lt_irrefl i)]
  calc laneOf (sfRefill msk words) i
      = laneOf (refillLanes msk words (i + 1)) i := by
        rw [laneOf_refillLanes msk words hi hi, if_pos (Nat.lt_succ_self i)]
    _ = _ := by
        rw [refillLanes_succ, laneOf_sfRefillLane_same _ _ hi, hstart,
          laneOf_refillLanes_behind msk words (back := 34) hi (by decide) (by decide),
          laneOf_refillLanes_behind msk words (back := 2) hi (by decide) (by decide),
          laneOf_refillLanes_behind msk words (back := 1) hi (by decide) (by decide)]

/-! ### The pass as a map of buffers (R212) -/

theorem refillLanes_injective (msk : Vector U32 4) {n : Nat} (hn : n ≤ 156) :
    Function.Injective fun words => refillLanes msk words n := by
  induction n with
  | zero => exact fun words words' h => h
  | succ n ih =>
    intro words words' h
    simp only [refillLanes_succ] at h
    exact ih (by omega) (sfRefillLane_injective msk hn h)

theorem refillLanes_xor (msk : Vector U32 4) (words words' : Vector U32 624) (n : Nat) :
    refillLanes msk (Vector.zipWith (· ^^^ ·) words words') n
      = Vector.zipWith (· ^^^ ·) (refillLanes msk words n) (refillLanes msk words' n) := by
  induction n with
  | zero => rfl
  | succ n ih => simp only [refillLanes_succ, ih, sfRefillLane_xor]

theorem sfRefill_injective (msk : Vector U32 4) : Function.Injective (sfRefill msk) := by
  intro words words' h
  rw [sfRefill_eq_refillLanes, sfRefill_eq_refillLanes] at h
  exact refillLanes_injective msk le_rfl h

theorem sfRefill_xor (msk : Vector U32 4) (words words' : Vector U32 624) :
    sfRefill msk (Vector.zipWith (· ^^^ ·) words words')
      = Vector.zipWith (· ^^^ ·) (sfRefill msk words) (sfRefill msk words') := by
  simp only [sfRefill_eq_refillLanes, refillLanes_xor]

theorem zipWith_xor_self (words : Vector U32 624) :
    Vector.zipWith (· ^^^ ·) words words = Vector.replicate 624 0 := by
  apply bank_ext
  intro k _
  rw [readWord_zipWith_xor, BitVec.xor_self]
  exact (readWord_replicate_zero k).symm

/-- As of every linear map: the zero buffer is any buffer XORed with itself. -/
theorem sfRefill_zero (msk : Vector U32 4) : sfRefill msk (Vector.replicate 624 0) = Vector.replicate 624 0 := by
  rw [← zipWith_xor_self (Vector.replicate 624 0), sfRefill_xor, zipWith_xor_self, zipWith_xor_self]

/-! ### Set bits (R208) -/

theorem popcount_eq_card {w : Nat} (v : BitVec w) :
    popcount v = ((Finset.range w).filter (fun k => v.getLsbD k = true)).card := by
  simp [popcount, Finset.card_def, Multiset.range]

/-! ### The cursor (R206) -/

theorem cursor_add_one (k : BitVec 10) : k + 1 = BitVec.ofNat 10 (k.toNat + 1) := rfl

theorem effectOf_sfmtNext_exhausted {s : State} (h : s.sfIdx = 624) :
    effectOf .sfmtNext s = outputWord (refillBuffer s) :=
  congrArg outputWord (if_pos h)

theorem effectOf_sfmtNext_buffered {s : State} (h : s.sfIdx ≠ 624) : effectOf .sfmtNext s = outputWord s :=
  congrArg outputWord (if_neg h)

/-! ### The obligations -/

/-- Settles O21: each assignment of the pass can be undone and is linear, so the pass is injective
(`sfRefill_injective`) and linear (`sfRefill_xor`), and only the zero buffer refills to the zero buffer. -/
theorem refillKeepsNonzeroStates : Obligations.RefillKeepsNonzeroStates := by
  refine fun msk => ⟨fun words words' h => sfRefill_injective msk h, sfRefill_xor msk,
    fun words => ⟨fun h => ?_, fun h => ?_⟩⟩
  · exact sfRefill_injective msk (h.trans (sfRefill_zero msk).symm)
  · rw [h, sfRefill_zero]

/-- Settles O18: the value, the sub-words and the words of a lane are `laneOf` read both ways, and a lane written is
the lane read back (`laneOf_writeLane`). -/
theorem laneIsLittleEndianView : Obligations.LaneIsLittleEndianView := by
  refine fun words j hj => ⟨toNat_laneOf words j, fun m hm => subWord_laneOf words j hm,
    fun k _ => readWord_eq_subWord words k, fun x => ⟨?_, fun k hk hne => ?_⟩⟩
  · exact (laneOf_writeLane words hj x).trans (if_pos rfl)
  · exact (laneOf_writeLane words hk x).trans (if_neg hne)

/-- Settles O19: a shift by n bytes is one by 8n bits, and the new lane's sub-words are the ones put together
(`subWord_sfRec`). -/
theorem sfRecFollowsSubWordFormula : Obligations.SfRecFollowsSubWordFormula := by
  refine ⟨fun x n => ⟨?_, ?_⟩, fun msk a b c d m hm => subWord_sfRec msk a b c d hm⟩
  · rw [lshift128, BitVec.toNat_shiftLeft, Nat.shiftLeft_eq]
  · rw [rshift128, BitVec.toNat_ushiftRight, Nat.shiftRight_eq_div_pow]

/-- Settles O20: assignment i reads lane i as it was, and the lanes 34, 2 and 1 places behind it as the pass has left
them (`laneOf_refillLanes_behind`). -/
theorem refillFollowsLaneRecurrence : Obligations.RefillFollowsLaneRecurrence := by
  intro msk words i hi old new
  have hlast : (if i < 1 then old 155 else new (i - 1)) = if i < 1 then old (i + 155) else new (i - 1) := by
    split
    next h => rw [Nat.lt_one_iff.mp h]
    next => rfl
  rw [hlast]
  exact laneOf_sfRefill msk words hi

/-- Settles O22: where the ARMED check passes, the cursor decides whether NEXT refills before it outputs, and REFILL is
its effect; where not, both fail with its code. -/
theorem sfmtOutputCommandsRun : Obligations.SfmtOutputCommandsRun := by
  refine ⟨⟨rfl, rfl⟩, ⟨?_, ?_⟩, fun s h hidx => ?_, fun s h hidx => ?_, fun s h => ?_, fun s h => ⟨?_, ?_⟩⟩
  · exact rejectsIndex_of_engineCommand (op := .next) (e := .sfmt) rfl fun _ => rfl
  · exact rejectsIndex_of_engineCommand (op := .refill) (e := .sfmt) rfl fun _ => rfl
  · have hend : s.sfIdx = 624 := BitVec.eq_of_toNat_eq hidx
    rw [exec_of_pass (i := .sfmtNext) (checkArmed_of_armed h), effectOf_sfmtNext_exhausted hend]
    rfl
  · have hnotEnd : s.sfIdx ≠ 624 := fun hend => hidx.ne (congrArg BitVec.toNat hend)
    rw [exec_of_pass (i := .sfmtNext) (checkArmed_of_armed h), effectOf_sfmtNext_buffered hnotEnd, ← cursor_add_one]
    rfl
  · exact exec_of_pass (i := .sfmtRefill) (checkArmed_of_armed h)
  · exact failsWith_of_check (i := .sfmtNext) (checkArmed_of_unarmed h)
  · exact failsWith_of_check (i := .sfmtRefill) (checkArmed_of_unarmed h)

/-- Settles O23: the model's scan of the combined word counts its set bits (`popcount_eq_card`). -/
theorem sfParityIsParityOfMaskedWords : Obligations.SfParityIsParityOfMaskedWords :=
  fun parity words => congrArg (· % 2) (popcount_eq_card (sfParityInner parity words))

/-- Settles O27: a nonzero word is what the check of the whole buffer looks for (`allZero_eq_false_iff`). -/
theorem sfmtArmCommandRuns : Obligations.SfmtArmCommandRuns := by
  refine ⟨rfl, ?_, fun s h => ?_, fun s h => ?_⟩
  · exact rejectsIndex_of_engineCommand (op := .arm) (e := .sfmt) rfl fun _ => rfl
  · exact exec_of_pass (i := .sfmtArm) (checkNonzero_of_nonzero ((allZero_eq_false_iff s.sfW).mpr h))
  · exact failsWith_of_check (i := .sfmtArm) (checkNonzero_of_zero ((allZero_iff s.sfW).mpr h))

end Sys2Proof.SfmtEngine
end

section
/-! The TinyMT32 engine and its commands (43_tinymt32.md). A step reads a status through its 127 bits only, fixes the
zero status, and can be undone on the 127 bits; a degenerate status is one whose 127 bits are zero (R249). -/

namespace Sys2Proof.TinyMtEngine

open Sys2Proof.Machine Sys2Proof.StateAccess Sys2Proof.Xorshift Sys2Proof.SfmtEngine

/-! ### A bit spread over a word (00_scope.md R12) -/

theorem spread32_getLsbD_zero (y : U32) : spread32 (y.getLsbD 0) = -(y &&& 1) := by
  have hbit : y &&& 1 = (BitVec.ofBool (y.getLsbD 0)).setWidth 32 := BitVec.and_one_eq_setWidth_ofBool_getLsbD
  rw [hbit]
  cases y.getLsbD 0 <;> rfl

/-! ### The step, word by word (R241) -/

/-- R241's x1, from the words 0 to 2 of the status. -/
def shiftedSum (st : Vector U32 4) : U32 :=
  let sum := (readWord st 0 &&& tmtMask) ^^^ readWord st 1 ^^^ readWord st 2
  sum ^^^ (sum <<< 1)

/-- R241's y1, the new word 3. -/
def newLastWord (st : Vector U32 4) : U32 := (readWord st 3 ^^^ (readWord st 3 >>> 1)) ^^^ shiftedSum st

/-- R241's m, which selects the matrix words. -/
def matrixMask (st : Vector U32 4) : U32 := spread32 ((newLastWord st).getLsbD 0)

section tmStep

variable (mat1 mat2 : U32) (st : Vector U32 4)

theorem readWord_tmStep_one :
    readWord (tmStep mat1 mat2 st) 1 = readWord st 2 ^^^ (mat1 &&& matrixMask st) := rfl

theorem readWord_tmStep_two :
    readWord (tmStep mat1 mat2 st) 2
      = (shiftedSum st ^^^ (newLastWord st <<< 10)) ^^^ (mat2 &&& matrixMask st) := rfl

theorem readWord_tmStep_three : readWord (tmStep mat1 mat2 st) 3 = newLastWord st := rfl

theorem matrixMask_eq_neg : matrixMask st = -(newLastWord st &&& 1) := spread32_getLsbD_zero _

end tmStep

/-! ### The 127 bits of a status (R240) -/

/-- The two statuses agree on their 127 bits: word 0 without bit 31, and words 1 to 3. -/
def Agree127 (st st' : Vector U32 4) : Prop :=
  (readWord st 0 &&& tmtMask) = (readWord st' 0 &&& tmtMask)
    ∧ ∀ k, 1 ≤ k → k < 4 → readWord st k = readWord st' k

theorem agree127_iff (st st' : Vector U32 4) :
    Agree127 st st' ↔
      (readWord st 0 &&& tmtMask) = (readWord st' 0 &&& tmtMask) ∧ readWord st 1 = readWord st' 1
        ∧ readWord st 2 = readWord st' 2 ∧ readWord st 3 = readWord st' 3 := by
  refine and_congr_right fun _ => ⟨fun h => ?_, fun ⟨h1, h2, h3⟩ k hk hk4 => ?_⟩
  · exact ⟨h 1 (by decide) (by decide), h 2 (by decide) (by decide), h 3 (by decide) (by decide)⟩
  · interval_cases k <;> assumption

/-- The zero status (R245). -/
def zeroStatus : Vector U32 4 := #v[0, 0, 0, 0]

theorem tmDegenerate_iff_words_zero (st : Vector U32 4) :
    tmDegenerate st = true ↔
      (readWord st 0 &&& tmtMask) = 0 ∧ readWord st 1 = 0 ∧ readWord st 2 = 0 ∧ readWord st 3 = 0 := by
  simp only [tmDegenerate, Bool.and_eq_true, beq_iff_eq, and_assoc]

theorem tmDegenerate_iff_agree127_zero (st : Vector U32 4) : tmDegenerate st = true ↔ Agree127 st zeroStatus :=
  (tmDegenerate_iff_words_zero st).trans (agree127_iff st zeroStatus).symm

/-- R249: the step reads only the 127 bits. -/
theorem tmStep_congr (mat1 mat2 : U32) {st st' : Vector U32 4} (h : Agree127 st st') :
    tmStep mat1 mat2 st = tmStep mat1 mat2 st' := by
  obtain ⟨h0, h1, h2, h3⟩ := (agree127_iff st st').mp h
  simp only [tmStep, h0, h1, h2, h3]

theorem tmStep_zeroStatus (mat1 mat2 : U32) : tmStep mat1 mat2 zeroStatus = zeroStatus := by
  have hmask : matrixMask zeroStatus = 0#32 := rfl
  apply bank_ext
  intro k hk
  interval_cases k
  · rfl
  · rw [readWord_tmStep_one, hmask, BitVec.and_zero]; rfl
  · rw [readWord_tmStep_two, hmask, BitVec.and_zero]; rfl
  · rfl

/-! ### Undoing a step (R249) -/

/-- From `(a &&& m) ^^^ b` and the part of `b` under the mask one recovers first `a &&& m`, then all of `b`. -/
theorem masked_xor_cancel {w : Nat} {m a a' b b' : BitVec w} (hb : b &&& m = b' &&& m)
    (h : (a &&& m) ^^^ b = (a' &&& m) ^^^ b') : a &&& m = a' &&& m ∧ b = b' := by
  have ha : a &&& m = a' &&& m := by
    have hmask := congrArg (· &&& m) h
    simpa only [xor_and_distrib, BitVec.and_assoc, BitVec.and_self, hb, BitVec.xor_left_inj] using hmask
  rw [ha, BitVec.xor_right_inj] at h
  exact ⟨ha, h⟩

theorem agree127_of_tmStep {mat1 mat2 : U32} {st st' : Vector U32 4}
    (h : Agree127 (tmStep mat1 mat2 st) (tmStep mat1 mat2 st')) : Agree127 st st' := by
  obtain ⟨h0, h1, h2, hlast⟩ := (agree127_iff _ _).mp h
  rw [readWord_tmStep_three, readWord_tmStep_three] at hlast
  have hmask : matrixMask st = matrixMask st' := by rw [matrixMask, matrixMask, hlast]
  have hword2 : readWord st 2 = readWord st' 2 := by
    rwa [readWord_tmStep_one, readWord_tmStep_one, hmask, BitVec.xor_left_inj] at h1
  have hshifted : shiftedSum st = shiftedSum st' := by
    rwa [readWord_tmStep_two, readWord_tmStep_two, hmask, hlast, BitVec.xor_left_inj, BitVec.xor_left_inj] at h2
  have hword3 : readWord st 3 = readWord st' 3 := by
    rw [newLastWord, newLastWord, hshifted, BitVec.xor_left_inj] at hlast
    exact xor_ushiftRight_injective (by decide) hlast
  have hsum : (readWord st 0 &&& tmtMask) ^^^ readWord st 1 = (readWord st' 0 &&& tmtMask) ^^^ readWord st' 1 := by
    have hsum2 := xor_shiftLeft_injective (by decide) hshifted
    rwa [hword2, BitVec.xor_left_inj] at hsum2
  obtain ⟨hword0, hword1⟩ := masked_xor_cancel h0 hsum
  exact (agree127_iff _ _).mpr ⟨hword0, hword1, hword2, hword3⟩

/-! ### The two degenerate patterns (R245) -/

theorem and_tmtMask_eq_zero_iff (v : U32) : v &&& tmtMask = 0 ↔ v = 0 ∨ v = 0x80000000 := by
  have hmod : (v &&& tmtMask).toNat = v.toNat % 2 ^ 31 := Nat.and_two_pow_sub_one_eq_mod v.toNat 31
  simp only [← BitVec.toNat_inj, hmod, BitVec.ofNat_eq_ofNat, BitVec.toNat_ofNat]
  omega

theorem status_eq_iff (st : Vector U32 4) (a b c d : U32) :
    st = #v[a, b, c, d] ↔ readWord st 0 = a ∧ readWord st 1 = b ∧ readWord st 2 = c ∧ readWord st 3 = d := by
  constructor
  · rintro rfl
    exact ⟨rfl, rfl, rfl, rfl⟩
  · rintro ⟨rfl, rfl, rfl, rfl⟩
    apply bank_ext
    intro k hk
    interval_cases k <;> rfl

/-! ### Certification (R246) -/

theorem tmCertify_of_degenerate (rescue : Vector U32 4) {st : Vector U32 4} (h : tmDegenerate st = true) :
    tmCertify rescue st = (rescue, true) :=
  if_pos h

theorem tmCertify_of_not_degenerate (rescue : Vector U32 4) {st : Vector U32 4} (h : tmDegenerate st = false) :
    tmCertify rescue st = (st, false) := by
  simp [tmCertify, h]

/-! ### The obligations -/

/-- Settles O30: bit 31 of word 0 is the one bit DEGENERATE does not read (`and_tmtMask_eq_zero_iff`). -/
theorem degenerateIsTwoPatterns : Obligations.DegenerateIsTwoPatterns := by
  intro st
  rw [status_eq_iff, status_eq_iff, ← or_and_right, ← and_tmtMask_eq_zero_iff]
  exact tmDegenerate_iff_words_zero st

/-- Settles O31: a step can be undone on the 127 bits (`agree127_of_tmStep`), reads nothing else (`tmStep_congr`) and
fixes the zero status (`tmStep_zeroStatus`), so the 127 bits are zero after it exactly when they were before it. -/
theorem tmStepKeepsDegeneracy : Obligations.TmStepKeepsDegeneracy := by
  refine fun mat1 mat2 => ⟨fun st => ?_, fun st st' h0 h => agree127_of_tmStep ⟨h0, h⟩⟩
  rw [Bool.eq_iff_iff, tmDegenerate_iff_agree127_zero, tmDegenerate_iff_agree127_zero]
  constructor
  · intro h
    rw [← tmStep_zeroStatus mat1 mat2] at h
    exact agree127_of_tmStep h
  · intro h
    rw [tmStep_congr mat1 mat2 h, tmStep_zeroStatus]
    exact ⟨rfl, fun _ _ _ => rfl⟩

/-- Settles O32: NEXT and ADV are their effects where the ARMED check passes, and fail with its code where not. -/
theorem tmtAdvanceCommandsRun : Obligations.TmtAdvanceCommandsRun := by
  refine ⟨⟨rfl, rfl⟩, ⟨?_, ?_⟩, fun s h => ?_, fun s h => ?_, fun s h => ⟨?_, ?_⟩⟩
  · exact rejectsIndex_of_engineCommand (op := .next) (e := .tmt) rfl fun _ => rfl
  · exact rejectsIndex_of_engineCommand (op := .adv) (e := .tmt) rfl fun _ => rfl
  · exact exec_of_pass (i := .tmtNext) (checkArmed_of_armed h)
  · exact exec_of_pass (i := .tmtAdv) (checkArmed_of_armed h)
  · exact failsWith_of_check (i := .tmtNext) (checkArmed_of_unarmed h)
  · exact failsWith_of_check (i := .tmtAdv) (checkArmed_of_unarmed h)

/-- Settles O33: CERT has no acceptance check and takes the certified status; ARM's check is the degeneracy test. -/
theorem tmtCertifyCommandsRun : Obligations.TmtCertifyCommandsRun := by
  refine ⟨⟨rfl, rfl⟩, ⟨?_, ?_⟩, fun s h => ⟨?_, ?_⟩, fun s h => ⟨?_, ?_⟩⟩
  · exact rejectsIndex_of_engineCommand (op := .cert) (e := .tmt) rfl fun _ => rfl
  · exact rejectsIndex_of_engineCommand (op := .arm) (e := .tmt) rfl fun _ => rfl
  · rw [exec_of_pass (i := .tmtCert) rfl, effectOf, tmCertify_of_degenerate _ h]
    rfl
  · exact failsWith_of_check (i := .tmtArm) (checkNonzero_of_zero h)
  · rw [exec_of_pass (i := .tmtCert) rfl, effectOf, tmCertify_of_not_degenerate _ h]
    rfl
  · exact exec_of_pass (i := .tmtArm) (checkNonzero_of_nonzero h)

/-- Settles O28: the model's spread of bit 0 of y1 is the formula's negation (`matrixMask_eq_neg`). -/
theorem tmStepFollowsRecurrence : Obligations.TmStepFollowsRecurrence := by
  intro mat1 mat2 st y0 x0 x1 y1 m
  have hm : matrixMask st = m := matrixMask_eq_neg st
  refine ⟨readWord_tmStep_zero mat1 mat2 st, ?_, ?_, readWord_tmStep_three mat1 mat2 st⟩
  · rw [readWord_tmStep_one, hm]
  · rw [readWord_tmStep_two, hm]
    rfl

/-- Settles O29: the model's spread of bit 0 of t1 is the formula's negation (`spread32_getLsbD_zero`). -/
theorem tmTemperFollowsFormula : Obligations.TmTemperFollowsFormula := by
  intro tmat st t1
  rw [← spread32_getLsbD_zero t1]
  rfl

end Sys2Proof.TinyMtEngine
end

section
/-! The error record (60_exceptions.md R301 to R303, R307). A recorded code outlives every operation of the block but
CLRERR and reset. A step ends by completing what is pending after its access, so the access is followed for both: the
record it leaves, and the command it may have latched (`hostAccess_holdsError`, `hostAccess_pend`). -/

namespace Sys2Proof.ErrorRecord

open Sys2Proof.Machine Sys2Proof.Encoding Sys2Proof.StateAccess

/-- STATUS holds an error, with code `code`. -/
def HoldsError (code : BitVec 4) (s : State) : Prop := s.err = true ∧ s.errcode = code

/-- The command in PEND, if any, is not CLRERR. -/
def NoClrerrPending (s : State) : Prop := ∀ p, s.pend = some p → p.cmd ≠ encode .clrerr

section holdsError

variable {code : BitVec 4} {s t u : State}

/-! ### Commands -/

/-- R302: "An error recorded while ERR = 1 is lost". -/
theorem recordError_holdsError (e : ErrCode) (h : HoldsError code s) : HoldsError code (recordError e s) := by
  obtain ⟨herr, hcode⟩ := h
  rw [recordError_of_full e herr]
  exact ⟨herr, hcode⟩

theorem emptyPend_holdsError (h : HoldsError code s) : HoldsError code (emptyPend s) := h

theorem effectOf_errorRecord {i : Instr} (hi : i ≠ .clrerr) (s : State) :
    (effectOf i s).err = s.err ∧ (effectOf i s).errcode = s.errcode := by
  cases i with
  | clrerr => exact absurd rfl hi
  | sfmtNext =>
    simp only [effectOf, outputWord_err, outputWord_errcode]
    split <;> exact ⟨rfl, rfl⟩
  | sfmtCert =>
    simp only [effectOf]
    split <;> exact ⟨rfl, rfl⟩
  | _ => exact ⟨rfl, rfl⟩

theorem effectOf_holdsError {i : Instr} (hi : i ≠ .clrerr) (h : HoldsError code s) :
    HoldsError code (effectOf i s) := by
  obtain ⟨herr, hcode⟩ := effectOf_errorRecord hi s
  rwa [HoldsError, herr, hcode]

theorem exec_holdsError {i : Instr} (hi : i ≠ .clrerr) (hx : exec i s = .next t) (h : HoldsError code s) :
    HoldsError code t := by
  obtain ⟨e, -, rfl⟩ | ⟨-, rfl⟩ := exec_cases hx
  · exact recordError_holdsError e (emptyPend_holdsError h)
  · exact emptyPend_holdsError (effectOf_holdsError hi h)

/-! ### Accesses -/

/-- 20_memory.md R78: a presented command either fails at once or goes into PEND. -/
theorem presentCommand_records_or_latches (c : U32) (s : State) :
    (∃ e, presentCommand c s = recordError e s) ∨ ∃ left, presentCommand c s = latchPend c left s := by
  obtain ⟨-, h⟩ | ⟨-, e, -, h⟩ | ⟨-, -, e, -, -, h⟩ | ⟨-, i, -, -, h⟩ := presentCommand_cases c s
  · exact .inl ⟨.busy, h⟩
  · exact .inl ⟨e, h⟩
  · exact .inl ⟨e, h⟩
  · exact .inr ⟨latencyOf i s, h⟩

theorem presentCommand_holdsError (c : U32) (h : HoldsError code s) : HoldsError code (presentCommand c s) := by
  obtain ⟨e, heq⟩ | ⟨left, heq⟩ := presentCommand_records_or_latches c s
  · rw [heq]
    exact recordError_holdsError e h
  · rw [heq]
    exact h

theorem presentCommand_pend (c : U32) (s : State) :
    (presentCommand c s).pend = s.pend ∨ ∃ left, (presentCommand c s).pend = some ⟨c, s.din, left⟩ := by
  obtain ⟨e, heq⟩ | ⟨left, heq⟩ := presentCommand_records_or_latches c s
  · exact .inl (heq ▸ recordError_pend e s)
  · exact .inr ⟨left, heq ▸ latchPend_pend c left s⟩

theorem readAccess_holdsError (offset bytes : Nat) (h : HoldsError code s) :
    HoldsError code (readAccess offset bytes s) := by
  obtain ⟨v, heq | heq⟩ := readAccess_cases offset bytes s
  · rw [heq]
    exact h
  · rw [heq]
    exact recordError_holdsError .bus h

theorem writeAccess_holdsError (offset bytes : Nat) (v : U64) (h : HoldsError code s) :
    HoldsError code (writeAccess offset bytes v s) := by
  obtain ⟨-, -, heq⟩ | ⟨d, heq⟩ | heq := writeAccess_cases offset bytes v s
  · rw [heq]
    exact presentCommand_holdsError (trunc32 v) h
  · rw [heq]
    exact h
  · rw [heq]
    exact recordError_holdsError .bus h

theorem hostAccess_holdsError {a : Access} (ha : hostAccess a s = .next u) (h : HoldsError code s) :
    HoldsError code u := by
  obtain ⟨addr, bytes, -, -, rfl⟩ | ⟨addr, bytes, v, -, -, rfl⟩ := hostAccess_cases ha
  · exact readAccess_holdsError _ bytes h
  · exact writeAccess_holdsError _ bytes v h

theorem readAccess_pend (offset bytes : Nat) (s : State) : (readAccess offset bytes s).pend = s.pend := by
  obtain ⟨v, heq | heq⟩ := readAccess_cases offset bytes s
  · rw [heq]
  · rw [heq, recordError_pend]

/-- Only a legal CMD write changes PEND, and it puts the word it presents there (20_memory.md R77, R78). -/
theorem writeAccess_pend (offset bytes : Nat) (v : U64) (s : State) :
    (writeAccess offset bytes v s).pend = s.pend
      ∨ (offset = 0 ∧ bytes = 4 ∧ ∃ left, (writeAccess offset bytes v s).pend = some ⟨trunc32 v, s.din, left⟩) := by
  obtain ⟨hoffset, hbytes, heq⟩ | ⟨d, heq⟩ | heq := writeAccess_cases offset bytes v s
  · rw [heq]
    exact (presentCommand_pend (trunc32 v) s).imp_right fun hlatched => ⟨hoffset, hbytes, hlatched⟩
  · exact .inl (by rw [heq])
  · exact .inl (by rw [heq, recordError_pend])

theorem hostAccess_pend {a : Access} (ha : hostAccess a s = .next u) :
    u.pend = s.pend ∨ ∃ v left, a = .write s.cfg.base 4 v ∧ u.pend = some ⟨trunc32 v, s.din, left⟩ := by
  obtain ⟨addr, bytes, -, -, rfl⟩ | ⟨addr, bytes, v, rfl, hwindow, rfl⟩ := hostAccess_cases ha
  · exact .inl (readAccess_pend _ bytes s)
  · obtain hpend | ⟨hoffset, rfl, left, hpend⟩ := writeAccess_pend (addr - s.cfg.base) bytes v s
    · exact .inl hpend
    · have haddr : addr = s.cfg.base := by
        simp only [inWindow, Bool.and_eq_true, decide_eq_true_eq] at hwindow
        omega
      exact .inr ⟨v, left, haddr ▸ rfl, hpend⟩

theorem hostAccess_noClrerrPending {a : Access} (ha : hostAccess a s = .next u) (hpend : NoClrerrPending s)
    (hword : ∀ v, a = .write s.cfg.base 4 v → trunc32 v ≠ encode .clrerr) : NoClrerrPending u := by
  intro p hp
  obtain hsame | ⟨v, left, hwrite, hlatched⟩ := hostAccess_pend ha
  · exact hpend p (hsame ▸ hp)
  · obtain rfl := Option.some.inj (hlatched.symm.trans hp)
    exact hword v hwrite

/-! ### Steps -/

theorem endOfStep_holdsError (he : endOfStep s = .next t) (hpend : NoClrerrPending s) (h : HoldsError code s) :
    HoldsError code t := by
  obtain ⟨-, rfl⟩ | ⟨p, -, -, rfl⟩ | ⟨p, i, hp, -, hdecode, hx⟩ | ⟨p, e, -, -, -, rfl⟩ := endOfStep_cases he
  · exact h
  · exact h
  · have hcmd : p.cmd = encode i := (decode_eq_ok_iff p.cmd i).mp hdecode
    have hi : i ≠ .clrerr := fun heq => hpend p hp (heq ▸ hcmd)
    exact exec_holdsError hi hx h
  · exact recordError_holdsError e (emptyPend_holdsError h)

theorem step_holdsError (hstep : step s = .next t) (hreset : s.port.head? ≠ some .reset) (hpend : NoClrerrPending s)
    (hword : ∀ v, s.port.head? = some (.access (.write s.cfg.base 4 v)) → trunc32 v ≠ encode .clrerr)
    (h : HoldsError code s) : HoldsError code t := by
  obtain ⟨-, ⟨-, he⟩ | ⟨rest, -, he⟩ | ⟨rest, hport, -⟩ | ⟨a, rest, u, hport, ha, he⟩⟩ := step_cases hstep
  · exact endOfStep_holdsError he hpend h
  · exact endOfStep_holdsError he hpend h
  · exact absurd (by rw [hport]; rfl) hreset
  · have hpendAfter : NoClrerrPending u :=
      hostAccess_noClrerrPending ha hpend fun v hwrite => hword v (by rw [hport, hwrite]; rfl)
    exact endOfStep_holdsError he hpendAfter (hostAccess_holdsError ha h)

end holdsError

/-! ### The obligation -/

/-- Settles O36: a step other than reset is an access and the end of the step, neither of which drops a recorded code
while CLRERR is neither pending nor presented (`step_holdsError`). -/
theorem firstErrorIsKept : Obligations.FirstErrorIsKept := by
  refine ⟨fun e s => recordError_of_clear e, fun e s => recordError_of_full e, rfl,
    fun s t hstep herr hreset hpend hword => ?_, fun s => ?_, fun s => ⟨resetBlock_err s, resetBlock_errcode s⟩⟩
  · exact step_holdsError hstep hreset hpend hword ⟨herr, rfl⟩
  · exact exec_of_pass (i := .clrerr) rfl

end Sys2Proof.ErrorRecord
end

section
/-! Sample words, the round trip of every command, and its other direction (30_encoding.md sections 1 to 4). -/

namespace Sys2Proof.RoundTrip

open Sys2Proof.Machine Sys2Proof.Encoding

/-- Settles O2: every field of a packed word is read back, so the decoder meets the command's own OP, ENG and IDX
(`decode_encode`). -/
theorem decodeOfEncodeIsIdentity : Obligations.DecodeOfEncodeIsIdentity := decode_encode

/-- Settles O3: a word the decoder accepts is clean, so it is its OP, ENG and IDX packed (`encode_of_decode`). -/
theorem decodedWordIsItsEncoding : Obligations.DecodedWordIsItsEncoding := fun _ _ => encode_of_decode

/-- Settles O1: each accepted word is the encoding of its command, and the four rejected words are evaluated. -/
theorem decodeReadsSampleWords : Obligations.DecodeReadsSampleWords := by
  refine ⟨decode_encode .nop, decode_encode .clrerr, decode_encode (.xsLdw 15), decode_encode (.sfmtRdw 623),
    decode_encode (.tmtRdw 6), decode_encode .sfmtLdp, decode_encode .tmtErst, decode_encode .xsAdv,
    decode_encode .sfmtRefill, decode_encode .tmtArm, ?_⟩
  decide

end Sys2Proof.RoundTrip
end

section
/-! The two-queue form of the xorshift1024* ring (10_state.md R33). Two active words make the general step; a single
active word is the same step after the reversed reserve has been put behind it (log 18), which leaves the reserve empty.
-/

namespace Sys2Proof.TwoQueue

open Sys2Proof.Machine Sys2Proof.Xorshift

variable {ring : Vector U64 16} {p : BitVec 4} {s0 s1 : U64} {rest active reserve : List U64}

/-- The slot at the pointer and the one after it hold the first two active words. -/
theorem queuesMatchRing_pointer_slots (h : queuesMatchRing (s0 :: s1 :: rest) reserve ring p) :
    readWord ring p.toNat = s0 ∧ readWord ring (p + 1).toNat = s1 := by
  obtain ⟨-, -, hactive, -⟩ := h
  have h0 := hactive 0 (by simp)
  have h1 := hactive 1 (by simp)
  rw [← toNat_nextPointer] at h1
  exact ⟨by simpa [Nat.mod_eq_of_lt p.isLt] using h0, h1⟩

/-- The general step: the words ahead move one place closer to the pointer, and the word it leaves behind is the first
of the reserve. -/
theorem queuesMatchRing_step (h : queuesMatchRing (s0 :: s1 :: rest) reserve ring p) :
    queuesMatchRing (xsNewWord s0 s1 :: rest) (s0 :: reserve) (xsStep ring p).1 (p + 1) := by
  obtain ⟨hs0, hs1⟩ := queuesMatchRing_pointer_slots h
  obtain ⟨hlength, -, hactive, hreserve⟩ := h
  simp only [List.length_cons] at hlength hactive
  have hp := toNat_nextPointer p
  have hlt := p.isLt
  refine ⟨by simp only [List.length_cons]; omega, List.cons_ne_nil _ _, fun k hk => ?_, fun k hk => ?_⟩
  · simp only [List.length_cons] at hk
    cases k with
    | zero =>
      have hslot : ((p + 1).toNat + 0) % 16 = (p + 1).toNat := by omega
      rw [hslot, readWord_xsStep_new, hs0, hs1]
      rfl
    | succ k =>
      have hslot : ((p + 1).toNat + (k + 1)) % 16 = (p.toNat + (k + 2)) % 16 := by omega
      rw [hslot, readWord_xsStep_other _ _ (by omega), hactive (k + 2) (by omega)]
      rfl
  · simp only [List.length_cons] at hk
    cases k with
    | zero =>
      have hslot : ((p + 1).toNat + 15 - 0) % 16 = p.toNat := by omega
      rw [hslot, readWord_xsStep_other _ _ (nextPointer_ne p), hs0]
      rfl
    | succ k =>
      have hslot : ((p + 1).toNat + 15 - (k + 1)) % 16 = (p.toNat + 15 - k) % 16 := by omega
      rw [hslot, readWord_xsStep_other _ _ (by omega), hreserve k (by omega)]
      rfl

/-- Around the ring, 15 reserve words read backwards are the words after the one active word. -/
theorem queuesMatchRing_swap (h : queuesMatchRing [s0] reserve ring p) :
    queuesMatchRing (s0 :: reserve.reverse) [] ring p := by
  obtain ⟨hlength, -, hactive, hreserve⟩ := h
  simp only [List.length_cons, List.length_nil] at hlength
  refine ⟨by simp; omega, List.cons_ne_nil _ _, fun k hk => ?_, fun k hk => absurd hk (Nat.not_lt_zero k)⟩
  simp only [List.length_cons, List.length_reverse] at hk
  cases k with
  | zero => exact hactive 0 (by simp)
  | succ k =>
    have hslot : (p.toNat + (k + 1)) % 16 = (p.toNat + 15 - (14 - k)) % 16 := by omega
    have hword : (s0 :: reserve.reverse).getD (k + 1) 0 = reserve.getD (14 - k) 0 := by
      have hmirror : reserve.length - 1 - k = 14 - k := by omega
      rw [List.getD_cons_succ, List.getD_eq_getElem?_getD, List.getElem?_reverse (by omega), hmirror,
        List.getD_eq_getElem?_getD]
    rw [hslot, hword, hreserve (14 - k) (by omega)]

theorem queueStep_pair (s0 s1 : U64) (rest reserve : List U64) :
    queueStep (s0 :: s1 :: rest) reserve = (xsNewWord s0 s1 :: rest, s0 :: reserve, xsNewWord s0 s1) := rfl

/-- Log 18: the step on one active word is the step after the swap. -/
theorem queueStep_swap (s0 : U64) (hreserve : reserve ≠ []) :
    queueStep [s0] reserve = queueStep (s0 :: reserve.reverse) [] := by
  obtain ⟨s1, rest, hreverse⟩ := List.exists_cons_of_ne_nil (List.reverse_ne_nil_iff.mpr hreserve)
  rw [hreverse, queueStep_pair, queueStep, hreverse]

/-- The refinement of a step with two or more active words. -/
theorem queueStep_pair_refines (h : queuesMatchRing (s0 :: s1 :: rest) reserve ring p) :
    queuesMatchRing (queueStep (s0 :: s1 :: rest) reserve).1 (queueStep (s0 :: s1 :: rest) reserve).2.1
        (xsStep ring p).1 (xsStep ring p).2.1
      ∧ (queueStep (s0 :: s1 :: rest) reserve).2.2 = (xsStep ring p).2.2 := by
  obtain ⟨hs0, hs1⟩ := queuesMatchRing_pointer_slots h
  exact ⟨queuesMatchRing_step h, by rw [queueStep_pair, xsStep_word, hs0, hs1]⟩

/-- Settles O17: by the number of active words. Two or more are the general step (`queueStep_pair_refines`), and one
becomes sixteen by the swap (`queuesMatchRing_swap`, `queueStep_swap`). -/
theorem twoQueueFormRefinesRing : Obligations.TwoQueueFormRefinesRing := by
  intro active reserve ring p h
  match active, h with
  | [], ⟨_, hne, _, _⟩ => exact absurd rfl hne
  | s0 :: s1 :: rest, h => exact queueStep_pair_refines h
  | [s0], h =>
    have hreserve : reserve ≠ [] := by
      rintro rfl
      simp [queuesMatchRing] at h
    have hswap := queuesMatchRing_swap h
    obtain ⟨s1, rest, hreverse⟩ := List.exists_cons_of_ne_nil (List.reverse_ne_nil_iff.mpr hreserve)
    rw [queueStep_swap s0 hreserve]
    rw [hreverse] at hswap ⊢
    exact queueStep_pair_refines hswap

end Sys2Proof.TwoQueue
end

section
/-! The configuration checks K1, K2, K3 and K5 (93_implementation_defined.md section 3), each as what it says of the
parameters. -/

namespace Sys2Proof.Configuration

open Sys2Proof.Machine

/-- K1: the total popcount of SFMT_PARITY1..4 is odd. -/
def OddParityMask (parity : Vector U32 4) : Prop :=
  (popcount (readWord parity 0) + popcount (readWord parity 1) + popcount (readWord parity 2)
    + popcount (readWord parity 3)) % 2 = 1

/-- The LAT_* parameters. -/
def latencyList (l : Latencies) : List Nat := [l.reg, l.xsCert, l.sfArm, l.xs, l.tmt, l.sf, l.sfRef, l.erst]

theorem parityCheck_iff (p : Params) : parityCheck p = true ↔ OddParityMask p.sfmtParity := by
  simp [parityCheck, OddParityMask]

theorem latencyCheck_iff (l : Latencies) : latencyCheck l = true ↔ ∀ n ∈ latencyList l, 0 < n := by
  simp [latencyCheck, latencyList, and_assoc]

theorem validConfig_iff (p : Params) :
    validConfig p = true ↔
      OddParityMask p.sfmtParity ∧ tmDegenerate p.tmtRescue = false ∧ p.base % 0x40 = 0
        ∧ ∀ n ∈ latencyList p.lat, 0 < n := by
  rw [← parityCheck_iff, ← latencyCheck_iff]
  simp [validConfig, and_assoc]

/-- Every command's latency is one of the parameters (70_reset_and_hazards.md R343). -/
theorem latencyOf_mem (i : Instr) (s : State) : latencyOf i s ∈ latencyList s.cfg.lat := by
  cases i with
  | sfmtNext =>
    simp only [latencyOf]
    split <;> simp [latencyList]
  | _ => simp [latencyOf, latencyList]

theorem latencyOf_pos (i : Instr) {s : State} (hv : validConfig s.cfg = true) : 0 < latencyOf i s := by
  obtain ⟨-, -, -, hlatency⟩ := (validConfig_iff s.cfg).mp hv
  exact hlatency _ (latencyOf_mem i s)

end Sys2Proof.Configuration
end

section
/-! Certification of an SFMT-19937 state (42_sfmt19937.md R208 to R210). The parity of a count of set bits is additive
under XOR, so flipping one bit under the parity mask changes SF_PARITY; and where SF_FIX finds no bit to flip, lane 0
covers the whole parity mask, whose own parity K1 makes odd. -/

namespace Sys2Proof.Certification

open Sys2Proof.Machine Sys2Proof.StateAccess Sys2Proof.SfmtEngine Sys2Proof.Configuration

/-! ### Parities of bit counts (R208) -/

theorem length_filter_xor_mod_two {α : Type} (p q : α → Bool) (l : List α) :
    (l.filter fun a => p a ^^ q a).length % 2 = ((l.filter p).length + (l.filter q).length) % 2 := by
  induction l with
  | nil => rfl
  | cons a l ih => cases hp : p a <;> cases hq : q a <;> simp [hp, hq] <;> omega

theorem popcount_xor_mod_two {w : Nat} (x y : BitVec w) :
    popcount (x ^^^ y) % 2 = (popcount x + popcount y) % 2 := by
  simp only [popcount, BitVec.getLsbD_xor]
  exact length_filter_xor_mod_two _ _ _

theorem popcount_twoPow {j : Nat} (hj : j < 32) : popcount ((1 : U32) <<< j) = 1 := by
  interval_cases j <;> rfl

theorem popcount_zero (w : Nat) : popcount (0#w) = 0 := by simp [popcount]

theorem sfParity_eq (parity : Vector U32 4) (words : Vector U32 624) :
    sfParity parity words =
      (popcount (readWord words 0 &&& readWord parity 0) + popcount (readWord words 1 &&& readWord parity 1)
        + popcount (readWord words 2 &&& readWord parity 2) + popcount (readWord words 3 &&& readWord parity 3))
        % 2 := by
  have h01 := popcount_xor_mod_two (readWord words 0 &&& readWord parity 0) (readWord words 1 &&& readWord parity 1)
  have h012 := popcount_xor_mod_two
    ((readWord words 0 &&& readWord parity 0) ^^^ (readWord words 1 &&& readWord parity 1))
    (readWord words 2 &&& readWord parity 2)
  have h0123 := popcount_xor_mod_two
    ((readWord words 0 &&& readWord parity 0) ^^^ (readWord words 1 &&& readWord parity 1)
      ^^^ (readWord words 2 &&& readWord parity 2)) (readWord words 3 &&& readWord parity 3)
  unfold sfParity sfParityInner
  omega

theorem sfParity_eq_zero_of_ne_one {parity : Vector U32 4} {words : Vector U32 624} (h : sfParity parity words ≠ 1) :
    sfParity parity words = 0 := by
  unfold sfParity at *
  omega

theorem sfParity_of_words_zero (parity : Vector U32 4) {words : Vector U32 624}
    (h : ∀ k, k < 4 → readWord words k = 0) : sfParity parity words = 0 := by
  rw [sfParity_eq, h 0 (by decide), h 1 (by decide), h 2 (by decide), h 3 (by decide)]
  simp [popcount_zero]

/-- R210: an odd state has a word other than 0 in lane 0. -/
theorem exists_word_ne_zero_of_sfParity_one {parity : Vector U32 4} {words : Vector U32 624}
    (h : sfParity parity words = 1) : ∃ k, k < 4 ∧ readWord words k ≠ 0 := by
  by_contra hnone
  push Not at hnone
  rw [sfParity_of_words_zero parity hnone] at h
  exact absurd h (by decide)

/-! ### Bits of lane 0 (R209) -/

theorem and_eq_right_of_forall_getLsbD {w : Nat} {x y : BitVec w}
    (h : ∀ j, j < w → y.getLsbD j = true → x.getLsbD j = true) : x &&& y = y := by
  apply BitVec.eq_of_getLsbD_eq
  intro j hj
  rw [BitVec.getLsbD_and]
  cases hy : y.getLsbD j with
  | false => rw [Bool.and_false]
  | true => rw [h j hj hy, Bool.and_true]

/-- Lane 0 covers the parity mask when it has every bit of it; its parity is then the mask's own. -/
theorem sfParity_of_covers {parity : Vector U32 4} {words : Vector U32 624}
    (h : ∀ k, k < 128 → bankBit parity k = true → bankBit words k = true) :
    sfParity parity words =
      (popcount (readWord parity 0) + popcount (readWord parity 1) + popcount (readWord parity 2)
        + popcount (readWord parity 3)) % 2 := by
  have hword (m : Nat) (hm : m < 4) : readWord words m &&& readWord parity m = readWord parity m := by
    refine and_eq_right_of_forall_getLsbD fun j hj hbit => ?_
    have hdiv : (32 * m + j) / 32 = m := by omega
    have hmod : (32 * m + j) % 32 = j := by omega
    have hk := h (32 * m + j) (by omega)
    simp only [bankBit, hdiv, hmod] at hk
    exact hk hbit
  rw [sfParity_eq, hword 0 (by decide), hword 1 (by decide), hword 2 (by decide), hword 3 (by decide)]

theorem getLsbD_one_shiftLeft {j n : Nat} (hj : j < 32) : ((1 : U32) <<< n).getLsbD j = decide (j = n) := by
  have hpow : (1 : U32) <<< n = BitVec.twoPow 32 n := (BitVec.twoPow_eq 32 n).symm
  rw [hpow, BitVec.getLsbD_twoPow]
  by_cases hjn : j = n
  · simp [← hjn, hj]
  · simp [hjn, Ne.symm hjn]

theorem bankBit_flipBankBit {n : Nat} (bank : Vector U32 n) {j k : Nat} (hj : j / 32 < n) :
    bankBit (flipBankBit bank k) j = if j = k then !(bankBit bank j) else bankBit bank j := by
  unfold bankBit flipBankBit
  rw [readWord_writeWord]
  by_cases hword : k / 32 = j / 32
  · have hsame : j % 32 = k % 32 ↔ j = k := by omega
    rw [if_pos ⟨hword, hj⟩, BitVec.getLsbD_xor, getLsbD_one_shiftLeft (Nat.mod_lt j (by decide)), hword]
    by_cases hjk : j = k <;> simp [hsame, hjk]
  · rw [if_neg (fun h => hword h.1), if_neg (fun h => hword (by rw [h]))]

theorem readWord_flipBankBit_other {n : Nat} (bank : Vector U32 n) {k m : Nat} (h : k / 32 ≠ m) :
    readWord (flipBankBit bank k) m = readWord bank m := by
  unfold flipBankBit
  rw [readWord_writeWord_other _ h]

/-- A flip of a bit under the parity mask changes the combined value of R208 in one bit position. -/
theorem sfParityInner_flipBankBit {parity : Vector U32 4} (words : Vector U32 624) {k : Nat} (hk : k < 128)
    (hbit : bankBit parity k = true) :
    sfParityInner parity (flipBankBit words k) = sfParityInner parity words ^^^ ((1 : U32) <<< (k % 32)) := by
  have hmask : ((1 : U32) <<< (k % 32)) &&& readWord parity (k / 32) = (1 : U32) <<< (k % 32) := by
    rw [BitVec.and_comm]
    refine and_eq_right_of_forall_getLsbD fun j hj hone => ?_
    rw [getLsbD_one_shiftLeft hj, decide_eq_true_eq] at hone
    exact hone ▸ hbit
  have hflip : readWord (flipBankBit words k) (k / 32) = readWord words (k / 32) ^^^ ((1 : U32) <<< (k % 32)) := by
    unfold flipBankBit
    rw [readWord_writeWord_same _ (by omega)]
  have hmasked : readWord (flipBankBit words k) (k / 32) &&& readWord parity (k / 32)
      = (readWord words (k / 32) &&& readWord parity (k / 32)) ^^^ ((1 : U32) <<< (k % 32)) := by
    rw [hflip, xor_and_distrib, hmask]
  have hother (m : Nat) (hm : k / 32 ≠ m) := readWord_flipBankBit_other words hm
  have hquot : k / 32 < 4 := by omega
  unfold sfParityInner
  generalize k / 32 = m at *
  interval_cases m <;> simp [hmasked, hother] <;> ac_rfl

theorem sfParity_flipBankBit {parity : Vector U32 4} {words : Vector U32 624} {k : Nat} (hk : k < 128)
    (hbit : bankBit parity k = true) (heven : sfParity parity words = 0) :
    sfParity parity (flipBankBit words k) = 1 := by
  have hxor := popcount_xor_mod_two (sfParityInner parity words) ((1 : U32) <<< (k % 32))
  rw [popcount_twoPow (Nat.mod_lt k (by decide))] at hxor
  unfold sfParity at *
  rw [sfParityInner_flipBankBit words hk hbit]
  omega

/-! ### The scan (R209) -/

/-- The scan's condition on bit k: it is in the parity mask and, in DOC mode, unset in lane 0. -/
def Qualifies (mode : CertFix) (parity : Vector U32 4) (words : Vector U32 624) (k : Nat) : Prop :=
  bankBit parity k = true ∧ (mode = .ref ∨ bankBit words k = false)

theorem sfFixBit_condition_iff (mode : CertFix) (parity : Vector U32 4) (words : Vector U32 624) (k : Nat) :
    (bankBit parity k && (mode == CertFix.ref || !bankBit words k)) = true ↔ Qualifies mode parity words k := by
  simp [Qualifies]

theorem sfFixBit_eq_some_iff (mode : CertFix) (parity : Vector U32 4) (words : Vector U32 624) (k : Nat) :
    sfFixBit mode parity words = some k ↔
      k < 128 ∧ Qualifies mode parity words k ∧ ∀ j, j < k → ¬Qualifies mode parity words j := by
  rw [sfFixBit, List.find?_range_eq_some, sfFixBit_condition_iff, List.mem_range]
  simp only [Bool.not_eq_true', ← Bool.not_eq_true, sfFixBit_condition_iff]
  tauto

/-- "A DOC flip always finds a bit when the total popcount of SFMT_PARITY1..4 is odd" (R209), and so does a REF flip:
with no bit to find, lane 0 would cover the mask, and have its odd parity. -/
theorem exists_sfFixBit (mode : CertFix) {parity : Vector U32 4} {words : Vector U32 624} (hodd : OddParityMask parity)
    (heven : sfParity parity words = 0) : ∃ k, sfFixBit mode parity words = some k := by
  by_contra hnone
  have hnone' : sfFixBit mode parity words = none := Option.eq_none_iff_forall_ne_some.mpr fun k hk => hnone ⟨k, hk⟩
  rw [sfFixBit, List.find?_range_eq_none] at hnone'
  simp only [Bool.not_eq_true', ← Bool.not_eq_true, sfFixBit_condition_iff] at hnone'
  have hcovers (k : Nat) (hk : k < 128) (hbit : bankBit parity k = true) : bankBit words k = true := by
    by_contra hunset
    exact hnone' k hk ⟨hbit, .inr (Bool.not_eq_true _ ▸ hunset)⟩
  rw [sfParity_of_covers hcovers] at heven
  exact absurd (hodd.symm.trans heven) (by decide)

theorem sfFix_of_some {mode : CertFix} {parity : Vector U32 4} {words : Vector U32 624} {k : Nat}
    (h : sfFixBit mode parity words = some k) : sfFix mode parity words = flipBankBit words k := by
  rw [sfFix, h]

theorem sfParity_sfFix (mode : CertFix) {parity : Vector U32 4} {words : Vector U32 624} (hodd : OddParityMask parity)
    (heven : sfParity parity words = 0) : sfParity parity (sfFix mode parity words) = 1 := by
  obtain ⟨k, hfind⟩ := exists_sfFixBit mode hodd heven
  obtain ⟨hk, ⟨hbit, -⟩, -⟩ := (sfFixBit_eq_some_iff mode parity words k).mp hfind
  rw [sfFix_of_some hfind]
  exact sfParity_flipBankBit hk hbit heven

/-! ### SFMT.CERT (R210) -/

theorem effectOf_sfmtCert_odd {s : State} (h : sfParity s.cfg.sfmtParity s.sfW = 1) :
    effectOf .sfmtCert s = { s with armedSf := true, certFixed := false } :=
  if_pos h

theorem effectOf_sfmtCert_even {s : State} (h : sfParity s.cfg.sfmtParity s.sfW ≠ 1) :
    effectOf .sfmtCert s =
      { s with sfW := sfFix s.cfg.sfmtCertFix s.cfg.sfmtParity s.sfW, armedSf := true, certFixed := true } :=
  if_neg h

theorem effectOf_sfmtCert_cfg (s : State) : (effectOf .sfmtCert s).cfg = s.cfg := by
  simp only [effectOf]
  split <;> rfl

theorem effectOf_sfmtCert_armedSf (s : State) : (effectOf .sfmtCert s).armedSf = true := by
  simp only [effectOf]
  split <;> rfl

/-- Under K1, certification leaves an odd state. -/
theorem sfParity_effectOf_sfmtCert {s : State} (hodd : OddParityMask s.cfg.sfmtParity) :
    sfParity s.cfg.sfmtParity (effectOf .sfmtCert s).sfW = 1 := by
  by_cases h : sfParity s.cfg.sfmtParity s.sfW = 1
  · rw [effectOf_sfmtCert_odd h]
    exact h
  · rw [effectOf_sfmtCert_even h]
    exact sfParity_sfFix _ hodd (sfParity_eq_zero_of_ne_one h)

/-! ### The obligations -/

/-- Settles O24: a bit is always found (`exists_sfFixBit`), the one found is the first that qualifies
(`sfFixBit_eq_some_iff`), and flipping it flips the parity (`sfParity_flipBankBit`) and no other bit. -/
theorem sfFixFlipsFirstQualifyingBit : Obligations.SfFixFlipsFirstQualifyingBit := by
  intro mode parity words hodd heven par bit fixed
  obtain ⟨k, hfind⟩ := exists_sfFixBit mode hodd heven
  obtain ⟨hk, ⟨hbit, hmode⟩, hfirst⟩ := (sfFixBit_eq_some_iff mode parity words k).mp hfind
  have hfixed : fixed = flipBankBit words k := sfFix_of_some hfind
  refine ⟨sfParity_sfFix mode hodd heven, k, hk, hbit, fun hdoc => ?_, hfirst, fun j hj => ?_, fun n hn _ => ?_⟩
  · exact hmode.resolve_left (by simp [hdoc])
  · rw [hfixed]
    exact bankBit_flipBankBit words (by omega)
  · rw [hfixed]
    exact readWord_flipBankBit_other words (by omega)

/-- Settles O25: CERT has no acceptance check, and its effect turns on the parity. -/
theorem sfmtCertCommandRuns : Obligations.SfmtCertCommandRuns := by
  refine ⟨rfl, ?_, fun s h => ?_, fun s h => ?_⟩
  · exact rejectsIndex_of_engineCommand (op := .cert) (e := .sfmt) rfl fun _ => rfl
  · rw [exec_of_pass (i := .sfmtCert) rfl, effectOf_sfmtCert_odd h]
    rfl
  · rw [exec_of_pass (i := .sfmtCert) rfl, effectOf_sfmtCert_even h]
    rfl

/-- Settles O26: K1 makes the certified state odd (`sfParity_effectOf_sfmtCert`), so the second CERT accepts it, and a
word of its lane 0 is not 0. -/
theorem secondSfmtCertChangesNothing : Obligations.SecondSfmtCertChangesNothing := by
  intro s t hv hx
  rw [exec_of_pass (i := .sfmtCert) rfl] at hx
  obtain rfl := Host.Outcome.next.inj hx
  obtain ⟨hK1, -⟩ := (validConfig_iff s.cfg).mp hv
  have hparity := sfParity_effectOf_sfmtCert hK1
  have hcfg : (emptyPend (effectOf .sfmtCert s)).cfg = s.cfg := effectOf_sfmtCert_cfg s
  have harmed : (emptyPend (effectOf .sfmtCert s)).armedSf = true := effectOf_sfmtCert_armedSf s
  have hpend : (emptyPend (effectOf .sfmtCert s)).pend = none := rfl
  obtain ⟨-, -, hodd, -⟩ := sfmtCertCommandRuns
  refine ⟨?_, harmed, exists_word_ne_zero_of_sfParity_one hparity⟩
  rw [hodd _ (by rw [hcfg]; exact hparity), ← harmed, ← hpend]

end Sys2Proof.Certification
end

section
/-! What a command reads and what it leaves unchanged: its acceptance check reads the engines and the operand, its
effect writes its own engine and no field of the model's own (10_state.md R39, 20_memory.md R78, 60_exceptions.md R303).
-/

namespace Sys2Proof.CommandFrame

open Sys2Proof.Machine Sys2Proof.StateAccess

/-! ### States with the same engines -/

/-- The three engines are the same in both states. -/
def SameEngines (s t : State) : Prop := ∀ e, sameEngine e s t

theorem sameEngine_refl (e : Engine) (s : State) : sameEngine e s s := by
  cases e with
  | xs => exact ⟨rfl, rfl, rfl⟩
  | sfmt => exact ⟨rfl, rfl, rfl⟩
  | tmt => exact ⟨rfl, rfl⟩

theorem sameEngine_emptyPend (e : Engine) (s : State) : sameEngine e s (emptyPend s) := by
  cases e with
  | xs => exact ⟨rfl, rfl, rfl⟩
  | sfmt => exact ⟨rfl, rfl, rfl⟩
  | tmt => exact ⟨rfl, rfl⟩

theorem sameEngine_recordError {e : Engine} {s t : State} (h : sameEngine e s t) (err : ErrCode) :
    sameEngine e s (recordError err t) := by
  cases e <;> simpa [sameEngine] using h

/-! ### Acceptance checks (R110 steps 7 to 9) -/

section congr

variable {s t : State}

theorem checkValue_congr (hdin : operandDin t = operandDin s) (largest : U64) :
    checkValue largest t = checkValue largest s := by
  rw [checkValue, checkValue, hdin]

theorem armed_congr {e : Engine} (h : sameEngine e s t) : armed e t = armed e s := by
  cases e with
  | xs => exact h.2.2
  | sfmt => exact h.2.2
  | tmt => exact h.2

theorem zeroState_congr {e : Engine} (h : sameEngine e s t) : zeroState e t = zeroState e s := by
  cases e with
  | xs => exact congrArg allZero h.1
  | sfmt => exact congrArg allZero h.1
  | tmt => exact congrArg tmDegenerate h.1

theorem checkArmed_congr {e : Engine} (h : sameEngine e s t) : checkArmed e t = checkArmed e s := by
  rw [checkArmed, checkArmed, armed_congr h]

theorem checkNonzero_congr {e : Engine} (h : sameEngine e s t) : checkNonzero e t = checkNonzero e s := by
  rw [checkNonzero, checkNonzero, zeroState_congr h]

/-- A check reads nothing but the engines and the operand. -/
theorem acceptCheck_congr (i : Instr) (h : SameEngines s t) (hdin : operandDin t = operandDin s) :
    acceptCheck i t = acceptCheck i s := by
  cases i with
  | xsLdp | sfmtLdp => exact checkValue_congr hdin _
  | xsNext | xsAdv => exact checkArmed_congr (h .xs)
  | sfmtNext | sfmtRefill => exact checkArmed_congr (h .sfmt)
  | tmtNext | tmtAdv => exact checkArmed_congr (h .tmt)
  | xsCert | xsArm => exact checkNonzero_congr (h .xs)
  | sfmtArm => exact checkNonzero_congr (h .sfmt)
  | tmtArm => exact checkNonzero_congr (h .tmt)
  | _ => rfl

end congr

theorem operandDin_of_pend {s : State} {p : Pend} (h : s.pend = some p) : operandDin s = p.din := by
  rw [operandDin, h]

theorem operandDin_withDin {s : State} {p : Pend} (hp : s.pend = some p) (v : U64) :
    operandDin { s with din := v } = operandDin s :=
  (operandDin_of_pend (s := { s with din := v }) hp).trans (operandDin_of_pend hp).symm

/-! ### Effects -/

/-- No effect writes DIN or the model's own fields (R39; log 1, 4, 5). -/
theorem effectOf_frame (i : Instr) (s : State) :
    (effectOf i s).din = s.din ∧ (effectOf i s).cfg = s.cfg ∧ (effectOf i s).port = s.port
      ∧ (effectOf i s).rdata = s.rdata := by
  cases i with
  | sfmtNext =>
    simp only [effectOf, outputWord_din, outputWord_cfg, outputWord_port, outputWord_rdata]
    split <;> exact ⟨rfl, rfl, rfl, rfl⟩
  | sfmtCert =>
    simp only [effectOf]
    split <;> exact ⟨rfl, rfl, rfl, rfl⟩
  | _ => exact ⟨rfl, rfl, rfl, rfl⟩

/-- An effect writes no engine but the one its command names. -/
theorem effectOf_sameEngine {i : Instr} {e : Engine} (h : engineUsed i ≠ some e) (s : State) :
    sameEngine e s (effectOf i s) := by
  cases e with
  | xs =>
    cases i with
    | sfmtNext =>
      simp only [effectOf, sameEngine, outputWord_xsW, outputWord_xsP, outputWord_armedXs]
      split <;> exact ⟨rfl, rfl, rfl⟩
    | sfmtCert =>
      simp only [effectOf]
      split <;> exact ⟨rfl, rfl, rfl⟩
    | xsLdw | xsRdw | xsLdp | xsRdp | xsErst | xsNext | xsAdv | xsCert | xsArm => exact absurd rfl h
    | _ => exact ⟨rfl, rfl, rfl⟩
  | sfmt =>
    cases i with
    | sfmtLdw | sfmtRdw | sfmtLdp | sfmtRdp | sfmtErst | sfmtNext | sfmtRefill | sfmtCert | sfmtArm =>
      exact absurd rfl h
    | _ => exact ⟨rfl, rfl, rfl⟩
  | tmt =>
    cases i with
    | sfmtNext =>
      simp only [effectOf, sameEngine, outputWord_tmS, outputWord_armedTm]
      split <;> exact ⟨rfl, rfl⟩
    | sfmtCert =>
      simp only [effectOf]
      split <;> exact ⟨rfl, rfl⟩
    | tmtLdw | tmtRdw | tmtErst | tmtNext | tmtAdv | tmtCert | tmtArm => exact absurd rfl h
    | _ => exact ⟨rfl, rfl⟩

/-- An effect takes its operand from PEND (R78): another DIN only shows as DIN. -/
theorem effectOf_withDin (i : Instr) {s : State} {p : Pend} (hp : s.pend = some p) (v : U64) :
    effectOf i { s with din := v } = { effectOf i s with din := v } := by
  cases i with
  | xsLdw | sfmtLdw | tmtLdw | xsLdp | sfmtLdp => simp only [effectOf, operandDin_withDin hp]
  | sfmtNext =>
    simp only [effectOf]
    split <;> rfl
  | sfmtCert =>
    simp only [effectOf]
    split <;> rfl
  | _ => rfl

/-- Every command answers a next state, with PEND empty. -/
theorem exec_answers (i : Instr) (s : State) : ∃ t, exec i s = .next t ∧ t.pend = none := by
  cases hcheck : acceptCheck i s with
  | some e => exact ⟨_, exec_of_error hcheck, by rw [recordError_pend, emptyPend_pend]⟩
  | none => exact ⟨_, exec_of_pass hcheck, emptyPend_pend _⟩

/-! ### The obligations -/

/-- Settles O48: a command answers with its check's failure or with its effect. -/
theorem everyCommandAnswersNext : Obligations.EveryCommandAnswersNext := by
  intro i s
  obtain ⟨t, hx, -⟩ := exec_answers i s
  exact ⟨⟨t, hx⟩, fun _ => failsWith_of_check⟩

/-- Settles O50: a failing command writes the record and PEND only, and an effect its own engine, DOUT, CERT_FIXED and
the record. -/
theorem commandsTouchOnlyTheirEngine : Obligations.CommandsTouchOnlyTheirEngine := by
  intro i s t hx
  obtain ⟨err, -, rfl⟩ | ⟨-, rfl⟩ := exec_cases hx
  · exact ⟨fun e _ => sameEngine_recordError (sameEngine_emptyPend e s) err, by simp⟩
  · exact ⟨fun e he => effectOf_sameEngine he s, effectOf_frame i s⟩

/-- Settles O11: check (`acceptCheck_congr`) and effect (`effectOf_withDin`) take the operand from PEND, so they do not
see DIN. -/
theorem pendingCommandIgnoresLaterDin : Obligations.PendingCommandIgnoresLaterDin := by
  intro i s p v hp
  have hcheck : acceptCheck i { s with din := v } = acceptCheck i s :=
    acceptCheck_congr i (sameEngine_refl · s) (operandDin_withDin hp v)
  refine ⟨operandDin_of_pend hp, ?_⟩
  cases h : acceptCheck i s with
  | some err =>
    rw [exec_of_error h, exec_of_error (hcheck.trans h), recordError_emptyPend, recordError_emptyPend]
    exact ⟨_, rfl, rfl, rfl⟩
  | none =>
    obtain ⟨hdin, -⟩ := effectOf_frame i s
    rw [exec_of_pass h, exec_of_pass (hcheck.trans h), effectOf_withDin i hp v]
    exact ⟨_, rfl, hdin, rfl⟩

end Sys2Proof.CommandFrame
end

section
/-! The register window (10_state.md R40, R45; 20_memory.md sections 1 to 3): the bits of STATUS and ID, and every
access to the window by its offset and width. -/

namespace Sys2Proof.RegisterWindow

open Sys2Proof.Machine Sys2Proof.StateAccess

/-! ### Fields of a word put together from its highest on -/

/-- A field above the last part of a word. -/
theorem extractLsb'_append_above {v w : Nat} (x : BitVec v) (y : BitVec w) {start n : Nat} (len : Nat)
    (h : start = w + n) : (x ++ y).extractLsb' start len = x.extractLsb' n len := by
  subst h
  rw [BitVec.extractLsb'_append_eq_of_le (Nat.le_add_right w n), Nat.add_sub_cancel_left]

theorem statusWord_bits (s : State) :
    (statusWord s).getLsbD 0 = s.pend.isSome ∧ (statusWord s).getLsbD 1 = s.err
      ∧ (statusWord s).getLsbD 8 = s.armedXs ∧ (statusWord s).getLsbD 9 = s.armedSf
      ∧ (statusWord s).getLsbD 10 = s.armedTm ∧ (statusWord s).getLsbD 11 = s.certFixed := by
  simp only [statusWord, busy, BitVec.getLsbD_append, BitVec.getLsbD_ofBool]
  simp

theorem statusWord_fields (s : State) :
    (statusWord s).extractLsb' 2 2 = 0#2 ∧ (statusWord s).extractLsb' 4 4 = s.errcode
      ∧ (statusWord s).extractLsb' 12 52 = 0#52 := by
  unfold statusWord
  refine ⟨?_, ?_, ?_⟩
  · rw [extractLsb'_append_above _ _ (n := 1) _ rfl, extractLsb'_append_above _ _ (n := 0) _ rfl]
    exact BitVec.extractLsb'_append_eq_right
  · rw [extractLsb'_append_above _ _ (n := 3) _ rfl, extractLsb'_append_above _ _ (n := 2) _ rfl,
      extractLsb'_append_above _ _ (n := 0) _ rfl]
    exact BitVec.extractLsb'_append_eq_right
  · rw [extractLsb'_append_above _ _ (n := 11) _ rfl, extractLsb'_append_above _ _ (n := 10) _ rfl,
      extractLsb'_append_above _ _ (n := 8) _ rfl, extractLsb'_append_above _ _ (n := 4) _ rfl,
      extractLsb'_append_above _ _ (n := 3) _ rfl, extractLsb'_append_above _ _ (n := 2) _ rfl,
      extractLsb'_append_above _ _ (n := 1) _ rfl]
    exact BitVec.extractLsb'_append_eq_left

theorem idWord_fields (cfg : Params) :
    (idWord cfg).extractLsb' 0 3 = 0b111#3 ∧ (idWord cfg).extractLsb' 3 5 = 0#5
      ∧ (idWord cfg).extractLsb' 8 8 = 0x01#8 ∧ (idWord cfg).extractLsb' 16 16 = cfg.implId
      ∧ (idWord cfg).extractLsb' 32 32 = 0#32 := by
  unfold idWord
  refine ⟨BitVec.extractLsb'_append_eq_right, ?_, ?_, ?_, ?_⟩
  · rw [extractLsb'_append_above _ _ (n := 0) _ rfl]
    exact BitVec.extractLsb'_append_eq_right
  · rw [extractLsb'_append_above _ _ (n := 5) _ rfl, extractLsb'_append_above _ _ (n := 0) _ rfl]
    exact BitVec.extractLsb'_append_eq_right
  · rw [extractLsb'_append_above _ _ (n := 13) _ rfl, extractLsb'_append_above _ _ (n := 8) _ rfl,
      extractLsb'_append_above _ _ (n := 0) _ rfl]
    exact BitVec.extractLsb'_append_eq_right
  · rw [extractLsb'_append_above _ _ (n := 29) _ rfl, extractLsb'_append_above _ _ (n := 24) _ rfl,
      extractLsb'_append_above _ _ (n := 16) _ rfl]
    exact BitVec.extractLsb'_append_eq_left

/-! ### Accesses inside and outside the window (R70, R73) -/

theorem inWindow_iff (cfg : Params) (addr : Nat) :
    inWindow cfg addr = true ↔ cfg.base ≤ addr ∧ addr < cfg.base + 0x40 := by
  simp [inWindow]

theorem inWindow_offset (cfg : Params) {offset : Nat} (h : offset < 0x40) : inWindow cfg (cfg.base + offset) = true :=
  (inWindow_iff cfg _).mpr ⟨Nat.le_add_right _ _, Nat.add_lt_add_left h _⟩

theorem hostAccess_read_window (s : State) {offset : Nat} (bytes : Nat) (h : offset < 0x40) :
    hostAccess (.read (s.cfg.base + offset) bytes) s = .next (readAccess offset bytes s) := by
  simp [hostAccess, inWindow_offset s.cfg h]

theorem hostAccess_write_window (s : State) {offset : Nat} (bytes : Nat) (v : U64) (h : offset < 0x40) :
    hostAccess (.write (s.cfg.base + offset) bytes v) s = .next (writeAccess offset bytes v s) := by
  simp [hostAccess, inWindow_offset s.cfg h]

theorem readAccess_of_legal {offset bytes : Nat} {s : State} {v : U64} (h : readWindow offset bytes s = some v) :
    readAccess offset bytes s = { s with rdata := v } := by
  rw [readAccess, h]

theorem readAccess_of_illegal {offset bytes : Nat} {s : State} (h : readWindow offset bytes s = none) :
    readAccess offset bytes s = recordError .bus { s with rdata := 0 } := by
  rw [readAccess, h]

theorem writeAccess_of_legal {offset bytes : Nat} {v : U64} {s t : State} (h : writeWindow offset bytes v s = some t) :
    writeAccess offset bytes v s = t := by
  rw [writeAccess, h]

theorem writeAccess_of_illegal {offset bytes : Nat} {v : U64} {s : State} (h : writeWindow offset bytes v s = none) :
    writeAccess offset bytes v s = recordError .bus s := by
  rw [writeAccess, h]

theorem readWindow_of_illegal (s : State) {offset bytes : Nat}
    (h : (offset, bytes) ∉ [(0x00, 4), (0x08, 8), (0x08, 4), (0x0C, 4), (0x10, 8), (0x10, 4), (0x14, 4), (0x18, 8),
      (0x18, 4), (0x1C, 4), (0x20, 8), (0x20, 4), (0x24, 4)]) : readWindow offset bytes s = none := by
  unfold readWindow
  split <;> simp_all

theorem writeWindow_of_illegal (v : U64) (s : State) {offset bytes : Nat}
    (h : (offset, bytes) ∉ [(0x00, 4), (0x10, 8), (0x10, 4), (0x14, 4)]) : writeWindow offset bytes v s = none := by
  unfold writeWindow
  split <;> simp_all

theorem hostAccess_legal_read {s : State} {offset bytes : Nat} {v : U64} (ho : offset < 0x40)
    (h : readWindow offset bytes s = some v) :
    hostAccess (.read (s.cfg.base + offset) bytes) s = .next { s with rdata := v } := by
  rw [hostAccess_read_window s bytes ho, readAccess_of_legal h]

theorem hostAccess_legal_write {s t : State} {offset bytes : Nat} {v : U64} (ho : offset < 0x40)
    (h : writeWindow offset bytes v s = some t) :
    hostAccess (.write (s.cfg.base + offset) bytes v) s = .next t := by
  rw [hostAccess_write_window s bytes v ho, writeAccess_of_legal h]

theorem hostAccess_illegal_write {s : State} {offset bytes : Nat} (v : U64) (ho : offset < 0x40)
    (h : (offset, bytes) ∉ [(0x00, 4), (0x10, 8), (0x10, 4), (0x14, 4)]) :
    hostAccess (.write (s.cfg.base + offset) bytes v) s = .next (recordError .bus s) := by
  rw [hostAccess_write_window s bytes v ho, writeAccess_of_illegal (writeWindow_of_illegal v s h)]

/-! ### Presenting a command on an idle block (R78) -/

theorem presentCommand_of_check_error {c : U32} {s : State} {i : Instr} {e : ErrCode} (hp : s.pend = none)
    (hd : decode c = .ok i) (hc : acceptCheck i (latchPend c 0 s) = some e) : presentCommand c s = recordError e s := by
  simp [presentCommand, busy, hp, hd, hc]

theorem presentCommand_of_accepted {c : U32} {s : State} {i : Instr} (hp : s.pend = none) (hd : decode c = .ok i)
    (hc : acceptCheck i (latchPend c 0 s) = none) : presentCommand c s = latchPend c (latencyOf i s) s := by
  simp [presentCommand, busy, hp, hd, hc]

/-! ### The obligations -/

/-- Settles O34: STATUS is its fields put together, so each is read at its place. -/
theorem statusWordShowsItsFields : Obligations.StatusWordShowsItsFields := by
  intro s
  obtain ⟨hbusy, herr, hxs, hsf, htm, hfixed⟩ := statusWord_bits s
  obtain ⟨hlow, hcode, hhigh⟩ := statusWord_fields s
  exact ⟨hbusy, herr, hlow, hcode, hxs, hsf, htm, hfixed, hhigh⟩

/-- Settles O35: offset 0x20 is a row of the 64-bit reads and of no write, and ID is its fields put together. -/
theorem idWordShowsItsFields : Obligations.IdWordShowsItsFields :=
  ⟨fun _ v => ⟨hostAccess_legal_read (by decide) rfl, hostAccess_illegal_write v (by decide) (by decide)⟩,
    idWord_fields⟩

/-- Settles O37: each of the 13 reads is a row of `readWindow`. -/
theorem legalReadsReturnRegisters : Obligations.LegalReadsReturnRegisters := by
  intro s reads lo hi
  have legal {offset bytes : Nat} {v : U64} (ho : offset < 0x40) (h : readWindow offset bytes s = some v) :
      reads offset bytes v := hostAccess_legal_read ho h
  refine ⟨?_, ?_, ?_, ?_, ?_, ?_, ?_, ?_, ?_, ?_, ?_, ?_, ?_⟩
  all_goals exact legal (by decide) rfl

/-- Settles O38: a half write puts the new half and the other half of DIN together again. -/
theorem dinWritesKeepTheOtherHalf : Obligations.DinWritesKeepTheOtherHalf := by
  intro s v
  refine ⟨hostAccess_legal_write (by decide) rfl, ⟨_, hostAccess_legal_write (by decide) rfl, ?_, ?_⟩,
    _, hostAccess_legal_write (by decide) rfl, ?_, ?_⟩
  · exact BitVec.extractLsb'_append_eq_right
  · exact BitVec.extractLsb'_append_eq_left
  · exact BitVec.extractLsb'_append_eq_left
  · exact BitVec.extractLsb'_append_eq_right

/-- Settles O39: outside the rows of `readWindow` and `writeWindow` an access is illegal. -/
theorem illegalAccessesRecordBusError : Obligations.IllegalAccessesRecordBusError := by
  refine fun s offset bytes ho => ⟨fun h => ?_, fun h v => hostAccess_illegal_write v ho h⟩
  rw [hostAccess_read_window s bytes ho, readAccess_of_illegal (readWindow_of_illegal s h)]

/-- Settles O40: the window is the 64 addresses from BASE on (`inWindow_iff`). -/
theorem accessesTheBlockDoesNotHaveStop : Obligations.AccessesTheBlockDoesNotHaveStop := by
  refine fun s addr bytes v => ⟨fun h => ?_, fun h => ?_⟩
  · have hout : ¬inWindow s.cfg addr = true := by
      rw [inWindow_iff]
      omega
    exact ⟨if_neg hout, if_neg hout, if_neg hout⟩
  · exact if_pos ((inWindow_iff s.cfg addr).mpr h)

/-- Settles O41: the four outcomes are the four ways through R78, a CMD write presenting its low 32 bits. -/
theorem commandPresentation : Obligations.CommandPresentation := by
  intro s v c write latched
  have hwrite : write = .next (presentCommand c s) := hostAccess_write_cmd v s
  refine ⟨fun hp => ?_, fun hp e hd => ?_, fun hp i e hd hc => ?_, fun hp i hd hc => ?_⟩
  · rw [hwrite, presentCommand_of_busy c hp]
  · rw [hwrite, presentCommand_of_decode_error hp hd]
  · rw [hwrite, presentCommand_of_check_error hp hd hc]
  · rw [hwrite, presentCommand_of_accepted hp hd hc]
    rfl

end Sys2Proof.RegisterWindow
end

section
/-! One step of the block (20_memory.md section 3, 70_reset_and_hazards.md sections 3 and 4): which event it takes, how
it ends, and what that makes of a pending command. -/

namespace Sys2Proof.BlockStep

open Sys2Proof.Machine Sys2Proof.Encoding Sys2Proof.StateAccess Sys2Proof.Configuration Sys2Proof.CommandFrame
  Sys2Proof.RegisterWindow Sys2Proof.ErrorRecord

variable {s t u : State} {p : Pend} {i : Instr}

/-! ### The event of a step -/

theorem step_of_invalid (hv : ¬validConfig s.cfg = true) : step s = .refused .invalidConfiguration := if_neg hv

theorem step_of_no_event (hv : validConfig s.cfg = true) (hport : s.port = []) : step s = endOfStep s := by
  rw [step, blockStep, if_pos hv, hport]

theorem step_of_event {ev : PortEvent} {rest : List PortEvent} (hv : validConfig s.cfg = true)
    (hport : s.port = ev :: rest) : step s = portEvent ev { s with port := rest } := by
  rw [step, blockStep, if_pos hv, hport]

theorem step_of_reset {rest : List PortEvent} (hv : validConfig s.cfg = true) (hport : s.port = .reset :: rest) :
    step s = .next (resetBlock { s with port := rest }) :=
  step_of_event hv hport

theorem step_of_access {a : Access} {rest : List PortEvent} (hv : validConfig s.cfg = true)
    (hport : s.port = .access a :: rest) (ha : hostAccess a { s with port := rest } = .next u) :
    step s = endOfStep u := by
  rw [step_of_event hv hport, portEvent, accessThenEnd, ha]

/-- A step without an access is the end of a step. -/
theorem step_of_no_access (hv : validConfig s.cfg = true) (hport : s.port = [] ∨ ∃ rest, s.port = .idle :: rest) :
    step s = endOfStep { s with port := s.port.tail } := by
  obtain hnil | ⟨rest, hidle⟩ := hport
  · have hsame : { s with port := s.port.tail } = s := by rw [hnil, List.tail_nil, ← hnil]
    rw [hsame, step_of_no_event hv hnil]
  · rw [step_of_event hv hidle, hidle]
    rfl

/-! ### The end of a step -/

theorem endOfStep_of_last (hp : s.pend = some p) (hl : p.left ≤ 1) : endOfStep s = completePending p.cmd s := by
  simp only [endOfStep, hp, hl, if_true]

theorem endOfStep_of_earlier (hp : s.pend = some p) (hl : 1 < p.left) :
    endOfStep s = .next { s with pend := some { p with left := p.left - 1 } } := by
  simp only [endOfStep, hp, Nat.not_le.mpr hl, if_false]

theorem completePending_of_decode {c : U32} (hd : decode c = .ok i) : completePending c s = exec i s := by
  rw [completePending, hd]

theorem completePending_answers (c : U32) (s : State) : ∃ t, completePending c s = .next t ∧ t.pend = none := by
  unfold completePending
  split
  next i _ => exact exec_answers i s
  next e _ => exact ⟨_, rfl, by rw [recordError_pend, emptyPend_pend]⟩

theorem endOfStep_answers (s : State) : ∃ t, endOfStep s = .next t := by
  cases hp : s.pend with
  | none => exact ⟨s, endOfStep_idle hp⟩
  | some p =>
    obtain hl | hl := Nat.lt_or_ge 1 p.left
    · exact ⟨_, endOfStep_of_earlier hp hl⟩
    · obtain ⟨t, ht, -⟩ := completePending_answers p.cmd s
      exact ⟨t, (endOfStep_of_last hp hl).trans ht⟩

/-! ### What an access can change (R74 to R78) -/

/-- A property of states that is kept by a write of whatever an access writes: the error record, `rdata`, DIN, PEND. -/
structure KeptByAccess (P : State → Prop) : Prop where
  record : ∀ e s, P s → P (recordError e s)
  rdata : ∀ v s, P s → P { s with rdata := v }
  din : ∀ d s, P s → P { s with din := d }
  pend : ∀ q s, P s → P { s with pend := q }

theorem KeptByAccess.after_hostAccess {P : State → Prop} (hP : KeptByAccess P) {a : Access}
    (ha : hostAccess a s = .next u) (h : P s) : P u := by
  obtain ⟨addr, bytes, -, -, rfl⟩ | ⟨addr, bytes, v, -, -, rfl⟩ := hostAccess_cases ha
  · obtain ⟨v, heq | heq⟩ := readAccess_cases (addr - s.cfg.base) bytes s
    · exact heq ▸ hP.rdata v s h
    · exact heq ▸ hP.record .bus _ (hP.rdata v s h)
  · obtain ⟨-, -, heq⟩ | ⟨d, heq⟩ | heq := writeAccess_cases (addr - s.cfg.base) bytes v s
    · obtain ⟨e, hpresent⟩ | ⟨left, hpresent⟩ := presentCommand_records_or_latches (trunc32 v) s
      · exact heq.trans hpresent ▸ hP.record e s h
      · exact heq.trans hpresent ▸ hP.pend _ s h
    · exact heq ▸ hP.din d s h
    · exact heq ▸ hP.record .bus s h

/-! ### Accesses while a command is pending (R78, R80) -/

/-- While PEND is full no access changes it. -/
theorem hostAccess_pend_of_full {a : Access} (ha : hostAccess a s = .next u) (hp : s.pend = some p) :
    u.pend = some p := by
  obtain ⟨addr, bytes, -, -, rfl⟩ | ⟨addr, bytes, v, -, -, rfl⟩ := hostAccess_cases ha
  · rw [readAccess_pend, hp]
  · obtain ⟨-, -, heq⟩ | ⟨d, heq⟩ | heq := writeAccess_cases (addr - s.cfg.base) bytes v s
    · rw [heq, presentCommand_of_busy _ (by rw [hp]; rfl), recordError_pend, hp]
    · rw [heq, hp]
    · rw [heq, recordError_pend, hp]

/-- What no access changes: the three engines, DOUT and CERT_FIXED are as in `s`. -/
def ShowsNoEffect (s t : State) : Prop := SameEngines s t ∧ t.dout = s.dout ∧ t.certFixed = s.certFixed

theorem showsNoEffect_refl (s : State) : ShowsNoEffect s s := ⟨(sameEngine_refl · s), rfl, rfl⟩

theorem keptByAccess_showsNoEffect (s : State) : KeptByAccess (ShowsNoEffect s) where
  record e t := fun ⟨hengines, hdout, hfixed⟩ =>
    ⟨fun g => sameEngine_recordError (hengines g) e, (recordError_dout e t).trans hdout,
      (recordError_certFixed e t).trans hfixed⟩
  rdata _ _ h := h
  din _ _ h := h
  pend _ _ h := h

theorem endOfStep_earlier_showsNoEffect (hu : ShowsNoEffect s u) (hp : u.pend = some p) (hl : 1 < p.left)
    (he : endOfStep u = .next t) : ShowsNoEffect s t ∧ t.pend = some { p with left := p.left - 1 } := by
  rw [endOfStep_of_earlier hp hl] at he
  obtain rfl := Host.Outcome.next.inj he
  exact ⟨hu, rfl⟩

/-! ### A command presented to an idle block, and the end of its step (R78, R343) -/

section present

variable {c : U32}

theorem acceptCheck_latchPend (i : Instr) (c : U32) (m n : Nat) (s : State) :
    acceptCheck i (latchPend c m s) = acceptCheck i (latchPend c n s) :=
  acceptCheck_congr i (sameEngine_refl · (latchPend c n s)) rfl

theorem endOfStep_presentCommand_of_failing (hp : s.pend = none) (hd : decode c = .ok i)
    (hfail : acceptCheck i (latchPend c 1 s) ≠ none) :
    endOfStep (presentCommand c s) = exec i (latchPend c 1 s) := by
  obtain ⟨e, he⟩ := Option.ne_none_iff_exists'.mp hfail
  have hempty : emptyPend (latchPend c 1 s) = s := by rw [emptyPend, latchPend, ← hp]
  rw [presentCommand_of_check_error hp hd ((acceptCheck_latchPend i c 0 1 s).trans he),
    endOfStep_idle (by rw [recordError_pend, hp]), exec_of_error he, hempty]

theorem endOfStep_presentCommand_of_latency_one (hp : s.pend = none) (hd : decode c = .ok i)
    (hpass : acceptCheck i (latchPend c 1 s) = none) (hlatency : latencyOf i s = 1) :
    endOfStep (presentCommand c s) = exec i (latchPend c 1 s) := by
  rw [presentCommand_of_accepted hp hd ((acceptCheck_latchPend i c 0 1 s).trans hpass), hlatency,
    endOfStep_of_last (latchPend_pend c 1 s) le_rfl, completePending_of_decode hd]

theorem endOfStep_presentCommand_of_longer (hp : s.pend = none) (hd : decode c = .ok i)
    (hpass : acceptCheck i (latchPend c 1 s) = none) (hlatency : 1 < latencyOf i s) :
    endOfStep (presentCommand c s) = .next (latchPend c (latencyOf i s - 1) s) := by
  rw [presentCommand_of_accepted hp hd ((acceptCheck_latchPend i c 0 1 s).trans hpass)]
  exact endOfStep_of_earlier (latchPend_pend c _ s) hlatency

end present

/-! ### Runs without an access (R342) -/

/-- One step of a run. -/
theorem run_succ (k : Nat) (h : step s = .next t) : Host.Core.run core (k + 1) s = Host.Core.run core k t := by
  have hcore : core.step s = .next t := h
  simp only [Host.Core.run, hcore]

/-- The port holds idle cycles only. -/
def QuietPort (s : State) : Prop := ∃ n, s.port = List.replicate n .idle

theorem quietPort_tail (h : QuietPort s) : QuietPort { s with port := s.port.tail } := by
  obtain ⟨n, hport⟩ := h
  exact ⟨n - 1, by rw [hport, List.tail_replicate]⟩

theorem step_of_quietPort (hv : validConfig s.cfg = true) (h : QuietPort s) :
    step s = endOfStep { s with port := s.port.tail } := by
  obtain ⟨n, hport⟩ := h
  refine step_of_no_access hv ?_
  cases n with
  | zero => exact .inl hport
  | succ n => exact .inr ⟨_, hport⟩

/-- A quiet step before the last one only counts down. -/
theorem step_quiet_earlier (hv : validConfig s.cfg = true) (hq : QuietPort s) (hp : s.pend = some p)
    (hl : 1 < p.left) :
    step s = .next { s with port := s.port.tail, pend := some { p with left := p.left - 1 } } := by
  rw [step_of_quietPort hv hq]
  exact endOfStep_of_earlier hp hl

/-- Until its latency has run out the command stays pending. -/
theorem run_quiet_pending (k : Nat) (hv : validConfig s.cfg = true) (hq : QuietPort s) (hp : s.pend = some p)
    (hk : k < p.left) : ∃ t, Host.Core.run core k s = .next t ∧ t.pend.isSome = true := by
  induction k generalizing s p with
  | zero => exact ⟨s, rfl, by rw [hp]; rfl⟩
  | succ k ih =>
    rw [run_succ k (step_quiet_earlier hv hq hp (by omega))]
    exact ih hv (quietPort_tail hq) rfl (Nat.lt_sub_of_add_lt hk)

/-- The last step completes it, whatever its word. -/
theorem run_quiet_completes (k : Nat) (hv : validConfig s.cfg = true) (hq : QuietPort s) (hp : s.pend = some p)
    (hk : max 1 p.left = k + 1) : ∃ t, Host.Core.run core (k + 1) s = .next t ∧ t.pend = none := by
  induction k generalizing s p with
  | zero =>
    obtain ⟨t, ht, hempty⟩ := completePending_answers p.cmd { s with port := s.port.tail }
    have hstep : step s = .next t := by
      rw [step_of_quietPort hv hq, ← ht]
      exact endOfStep_of_last hp (by omega)
    exact ⟨t, run_succ 0 hstep, hempty⟩
  | succ k ih =>
    rw [run_succ (k + 1) (step_quiet_earlier hv hq hp (by omega))]
    exact ih hv (quietPort_tail hq) rfl (show max 1 (p.left - 1) = k + 1 by omega)

/-! ### Refusals (log 12) -/

theorem endOfStep_ne_refused (s : State) (r : Refusal) : endOfStep s ≠ .refused r := by
  obtain ⟨t, ht⟩ := endOfStep_answers s
  simp [ht]

/-- The only refusal of an access is of a fetch. -/
theorem hostAccess_ne_invalidConfiguration (a : Access) (s : State) :
    hostAccess a s ≠ .refused .invalidConfiguration := by
  intro h
  cases a with
  | read | write | fetch =>
    simp only [hostAccess] at h
    split at h <;> cases h

theorem step_ne_invalidConfiguration (hv : validConfig s.cfg = true) : step s ≠ .refused .invalidConfiguration := by
  cases hport : s.port with
  | nil =>
    rw [step_of_no_event hv hport]
    exact endOfStep_ne_refused s _
  | cons ev rest =>
    rw [step_of_event hv hport]
    cases ev with
    | idle => exact endOfStep_ne_refused _ _
    | reset => simp [portEvent]
    | access a =>
      have ha := hostAccess_ne_invalidConfiguration a { s with port := rest }
      simp only [portEvent, accessThenEnd]
      split
      · exact endOfStep_ne_refused _ _
      · simp
      next r hr => exact fun h => ha (hr.trans h)

/-! ### A placed word (log 4) -/

theorem extractLsb'_ofNat_mod (w : Nat) : (BitVec.ofNat 64 (w % 2 ^ 32)).extractLsb' 0 32 = BitVec.ofNat 32 w := by
  rw [extractLsb'_zero_eq_ofNat]
  apply BitVec.eq_of_toNat_eq
  simp only [BitVec.toNat_ofNat]
  omega

theorem decode_of_decodeTableWord {w : Nat} (h : decodeTableWord 32 w = some i) :
    decode (BitVec.ofNat 32 w) = .ok i := by
  have hword : BitVec.ofNat 32 (w % 2 ^ 32) = BitVec.ofNat 32 w := BitVec.eq_of_toNat_eq (by simp)
  rw [decodeTableWord, hword] at h
  split at h
  next hd => rw [hd, Option.some.inj h]
  next => cases h

theorem latencyOf_withFetchWord (i : Instr) (s : State) (w : Nat) : latencyOf i (s.withFetchWord 32 w) = 1 := by
  cases i with
  | sfmtNext =>
    simp only [latencyOf]
    split <;> rfl
  | _ => rfl

/-! ### The obligations -/

/-- Settles O43: a valid block refuses at most a fetch, and the four checks are K1, K2, K3 and K5 (`validConfig_iff`),
K2's two patterns the degenerate ones (`degenerateIsTwoPatterns`). -/
theorem invalidConfigurationIsRefused : Obligations.InvalidConfigurationIsRefused := by
  intro s p k1 k2 k3 k5
  have hk2 : tmDegenerate p.tmtRescue = false ↔ k2 := by
    rw [← Bool.not_eq_true, TinyMtEngine.degenerateIsTwoPatterns, not_or]
  have hvalid : validConfig s.cfg = true ↔ k1 ∧ k2 ∧ k3 ∧ k5 := by
    rw [← hk2]
    exact validConfig_iff s.cfg
  rw [← hvalid]
  exact ⟨fun h hv => step_ne_invalidConfiguration hv h, step_of_invalid⟩

/-- Settles O42: a failing check leaves the block idle at the end of the step, as the command's failure does; a command
of latency 1 is completed by the end of the step, and a longer one counts down. -/
theorem stepRunsDecodedCommand : Obligations.StepRunsDecodedCommand := by
  intro s v rest i hv hp hport hd accepted
  have hstep : step s = endOfStep (presentCommand (v.extractLsb' 0 32) { s with port := rest }) :=
    step_of_access hv hport (hostAccess_write_cmd v { s with port := rest })
  have hidle : { s with port := rest }.pend = none := hp
  rw [hstep]
  exact ⟨endOfStep_presentCommand_of_failing hidle hd, endOfStep_presentCommand_of_latency_one hidle hd,
    endOfStep_presentCommand_of_longer hidle hd⟩

/-- Settles O44: without an access the step is its end. -/
theorem stepCompletesPendingCommand : Obligations.StepCompletesPendingCommand := by
  intro s p i hv hp hd hport s'
  have hstep : step s = endOfStep s' := step_of_no_access hv hport
  have hp' : s'.pend = some p := hp
  refine ⟨fun hl => ?_, fun hl => ?_⟩
  · rw [hstep, endOfStep_of_last hp' hl, completePending_of_decode hd]
  · rw [hstep, endOfStep_of_earlier hp' hl]

/-- Settles O45: the placed event is a CMD write of the word to an idle block whose latencies are 1, so O42 applies. -/
theorem fetchWordIsTheNextCommand : Obligations.FetchWordIsTheNextCommand := by
  intro s w i hv hword
  have hlow := extractLsb'_ofNat_mod w
  have hd : decode ((BitVec.ofNat 64 (w % 2 ^ 32)).extractLsb' 0 32) = .ok i :=
    hlow ▸ decode_of_decodeTableWord hword
  obtain ⟨hfail, hpass, -⟩ := stepRunsDecodedCommand (s.withFetchWord 32 w) _ s.port i hv rfl rfl hd
  rw [hlow] at hfail hpass
  by_cases hcheck : acceptCheck i { s.withFetchWord 32 w with
      port := s.port, pend := some ⟨BitVec.ofNat 32 w, s.din, 1⟩ } = none
  · exact hpass hcheck (latencyOf_withFetchWord i s w)
  · exact hfail hcheck

/-- Settles O46: by the count, on a port that stays quiet. -/
theorem pendingCommandCompletes : Obligations.PendingCommandCompletes := by
  intro s p n hv hp hport
  obtain ⟨k, hk⟩ : ∃ k, max 1 p.left = k + 1 := ⟨max 1 p.left - 1, by omega⟩
  refine ⟨?_, fun j hj => run_quiet_pending j hv ⟨n, hport⟩ hp hj⟩
  rw [hk]
  exact run_quiet_completes k hv ⟨n, hport⟩ hp hk

/-- Settles O47: an access writes no engine, DOUT or CERT_FIXED (`keptByAccess_showsNoEffect`) and leaves a full PEND
alone (`hostAccess_pend_of_full`), and the end of the step only counts down. -/
theorem pendingCommandShowsNoEffect : Obligations.PendingCommandShowsNoEffect := by
  intro s t p hp hl hreset hstep
  have hshows : ShowsNoEffect s t ∧ t.pend = some { p with left := p.left - 1 } := by
    obtain ⟨-, ⟨-, he⟩ | ⟨rest, -, he⟩ | ⟨rest, hport, -⟩ | ⟨a, rest, u, -, ha, he⟩⟩ := step_cases hstep
    · exact endOfStep_earlier_showsNoEffect (showsNoEffect_refl s) hp hl he
    · exact endOfStep_earlier_showsNoEffect (u := { s with port := rest }) (showsNoEffect_refl s) hp hl he
    · exact absurd (by rw [hport]; rfl) hreset
    · have hu : ShowsNoEffect s u := (keptByAccess_showsNoEffect s).after_hostAccess ha (showsNoEffect_refl s)
      exact endOfStep_earlier_showsNoEffect hu (hostAccess_pend_of_full ha hp) hl he
  obtain ⟨⟨hengines, hdout, hfixed⟩, hpend⟩ := hshows
  exact ⟨hengines .xs, hengines .sfmt, hengines .tmt, hdout, hfixed, hpend⟩

/-- Settles O49: an accepted command still passes its check in its last step, so it completes by its effect, and only
CLRERR's writes the record (`effectOf_errorRecord`). -/
theorem completionRecordsNoError : Obligations.CompletionRecordsNoError := by
  intro s t p hok hp hl hport hstep
  obtain ⟨hv, -⟩ := step_cases hstep
  obtain ⟨-, i, hd, hcheck⟩ := hok p hp
  obtain ⟨hlast, -⟩ := stepCompletesPendingCommand s p i hv hp hd hport
  have hcheck' : acceptCheck i { s with port := s.port.tail } = none :=
    (acceptCheck_congr i (sameEngine_refl · s) rfl).trans hcheck
  rw [hlast hl, exec_of_pass hcheck'] at hstep
  obtain rfl := Host.Outcome.next.inj hstep
  refine ⟨emptyPend_pend _, ?_⟩
  by_cases hi : i = .clrerr
  · subst hi
    exact .inr ⟨(decode_eq_ok_iff _ _).mp hd, rfl, rfl⟩
  · exact .inl (effectOf_errorRecord hi { s with port := s.port.tail })

end Sys2Proof.BlockStep
end

section
/-! What every step keeps (10_state.md R35, R37, R41, R47; 41_xorshift1024.md R172, 42_sfmt19937.md R212,
43_tinymt32.md R249). The induction over what a step does is made once, in `KeptByStep.after_step`; each invariant is then
its few cases. -/

namespace Sys2Proof.StepInvariant

open Sys2Proof.Machine Sys2Proof.Encoding Sys2Proof.StateAccess Sys2Proof.Xorshift Sys2Proof.SfmtEngine
  Sys2Proof.Configuration Sys2Proof.Certification Sys2Proof.CommandFrame Sys2Proof.ErrorRecord Sys2Proof.BlockStep

variable {s t u : State}

/-! ### The parts of a step -/

/-- A property that every part of a step keeps: an access, the event taken from the port, an effect whose check has
passed, and reset. -/
structure KeptByStep (P : State → Prop) : Prop extends KeptByAccess P where
  port : ∀ rest s, P s → P { s with port := rest }
  effect : ∀ i s, acceptCheck i s = none → P s → P (effectOf i s)
  reset : ∀ s, P s → P (resetBlock s)

section keptByStep

variable {P : State → Prop} (hP : KeptByStep P)
include hP

theorem KeptByStep.after_emptyPend (h : P s) : P (emptyPend s) := hP.pend none s h

theorem KeptByStep.after_exec {i : Instr} (hx : exec i s = .next t) (h : P s) : P t := by
  obtain ⟨e, -, rfl⟩ | ⟨hpass, rfl⟩ := exec_cases hx
  · exact hP.record e _ (hP.after_emptyPend h)
  · exact hP.after_emptyPend (hP.effect i s hpass h)

theorem KeptByStep.after_endOfStep (he : endOfStep s = .next t) (h : P s) : P t := by
  obtain ⟨-, rfl⟩ | ⟨p, -, -, rfl⟩ | ⟨p, i, -, -, -, hx⟩ | ⟨p, e, -, -, -, rfl⟩ := endOfStep_cases he
  · exact h
  · exact hP.pend _ s h
  · exact hP.after_exec hx h
  · exact hP.record e _ (hP.after_emptyPend h)

theorem KeptByStep.after_step (hstep : step s = .next t) (h : P s) : P t := by
  obtain ⟨-, ⟨-, he⟩ | ⟨rest, -, he⟩ | ⟨rest, -, rfl⟩ | ⟨a, rest, u, -, ha, he⟩⟩ := step_cases hstep
  · exact hP.after_endOfStep he h
  · exact hP.after_endOfStep he (hP.port rest s h)
  · exact hP.reset _ (hP.port rest s h)
  · exact hP.after_endOfStep he (hP.toKeptByAccess.after_hostAccess ha (hP.port rest s h))

end keptByStep

/-! ### The parameters (log 1) -/

theorem keptByStep_cfg (cfg : Params) : KeptByStep fun s => s.cfg = cfg where
  record e s h := (recordError_cfg e s).trans h
  rdata _ _ h := h
  din _ _ h := h
  pend _ _ h := h
  port _ _ h := h
  effect i s _ h := by
    obtain ⟨-, hcfg, -⟩ := effectOf_frame i s
    exact hcfg.trans h
  reset s h := (resetBlock_cfg s).trans h

/-- Settles O51: no part of a step writes the parameters. -/
theorem stepsKeepTheParameters : Obligations.StepsKeepTheParameters :=
  fun s _ hstep => (keptByStep_cfg s.cfg).after_step hstep rfl

/-! ### The error record (10_state.md R41, 60_exceptions.md R301) -/

theorem errNumber_range (e : ErrCode) : errNumber e ≠ 0 ∧ (errNumber e).toNat ≤ 11 := by
  cases e <;> decide

theorem errorRecordOk_of_fields (herr : t.err = s.err) (hcode : t.errcode = s.errcode) (h : errorRecordOk s) :
    errorRecordOk t := by
  rwa [errorRecordOk, herr, hcode]

theorem errorRecordOk_recordError (e : ErrCode) (h : errorRecordOk s) : errorRecordOk (recordError e s) := by
  obtain ⟨hne, hle⟩ := errNumber_range e
  cases herr : s.err with
  | true => rwa [recordError_of_full e herr]
  | false =>
    rw [recordError_of_clear e herr]
    exact ⟨iff_of_false Bool.noConfusion hne, hle⟩

theorem errorRecordOk_of_clear (herr : s.err = false) (hcode : s.errcode = 0) : errorRecordOk s := by
  simp [errorRecordOk, herr, hcode]

theorem keptByStep_errorRecordOk : KeptByStep errorRecordOk where
  record e _ := errorRecordOk_recordError e
  rdata _ _ h := h
  din _ _ h := h
  pend _ _ h := h
  port _ _ h := h
  effect i s _ h := by
    by_cases hi : i = .clrerr
    · rw [hi]
      exact errorRecordOk_of_clear (clearError_err s) (clearError_errcode s)
    · obtain ⟨herr, hcode⟩ := effectOf_errorRecord hi s
      exact errorRecordOk_of_fields herr hcode h
  reset s _ := errorRecordOk_of_clear (resetBlock_err s) (resetBlock_errcode s)

/-- Settles O55: what writes the record is RECORD, with a code in 1..11, CLRERR and reset. -/
theorem stepKeepsErrorRecordConsistent : Obligations.StepKeepsErrorRecordConsistent :=
  fun _ _ h hstep => keptByStep_errorRecordOk.after_step hstep h

/-! ### The cursor (10_state.md R35) -/

/-- R110 step 7, read backwards. -/
theorem operandDin_le_of_checkValue {largest : U64} (h : checkValue largest s = none) :
    (operandDin s).toNat ≤ largest.toNat := by
  by_contra hlt
  rw [checkValue_of_lt (Nat.lt_of_not_le hlt)] at h
  cases h

/-- The cursor after SFMT.NEXT is the one after the word put out: 1 after a refill, else one more. -/
theorem cursorOk_sfmtNext (h : cursorOk s) : cursorOk (effectOf .sfmtNext s) := by
  unfold cursorOk at *
  by_cases hend : s.sfIdx = 624
  · rw [effectOf_sfmtNext_exhausted hend, outputWord_sfIdx, refillBuffer_sfIdx]
    decide
  · have hne : s.sfIdx.toNat ≠ 624 := fun heq => hend (BitVec.eq_of_toNat_eq heq)
    rw [effectOf_sfmtNext_buffered hend, outputWord_sfIdx, cursor_add_one, BitVec.toNat_ofNat]
    omega

theorem cursorOk_sfmtLdp (hpass : acceptCheck .sfmtLdp s = none) : cursorOk (effectOf .sfmtLdp s) := by
  have hle : (operandDin s).toNat ≤ 624 := operandDin_le_of_checkValue hpass
  have hcursor : (effectOf .sfmtLdp s).sfIdx = BitVec.ofNat 10 (operandDin s).toNat := extractLsb'_zero_eq_ofNat 10 _
  rw [cursorOk, hcursor, BitVec.toNat_ofNat]
  omega

theorem keptByStep_cursorOk : KeptByStep cursorOk where
  record e s h := by rwa [cursorOk, recordError_sfIdx]
  rdata _ _ h := h
  din _ _ h := h
  pend _ _ h := h
  port _ _ h := h
  effect i s hpass h := by
    cases i with
    | sfmtNext => exact cursorOk_sfmtNext h
    | sfmtLdp => exact cursorOk_sfmtLdp hpass
    | sfmtRefill => exact Nat.zero_le 624
    | sfmtErst => exact le_refl 624
    | sfmtCert =>
      simp only [effectOf]
      split <;> exact h
    | _ => exact h
  reset _ _ := le_refl 624

/-- Settles O56: the cursor is written by NEXT, REFILL, LDP, ERST and reset, each time by a value in range. -/
theorem stepKeepsCursorInRange : Obligations.StepKeepsCursorInRange :=
  fun _ _ h hstep => keptByStep_cursorOk.after_step hstep h

/-! ### Armed engines (R172, R212, R249) -/

/-- The engine, if armed, holds a nonzero or non-degenerate state. -/
def ArmedEngineOk (e : Engine) (s : State) : Prop := armed e s = true → zeroState e s = false

theorem armedOk_iff (s : State) : armedOk s ↔ ∀ e, ArmedEngineOk e s := by
  rw [armedOk, ← allZero_eq_false_iff, ← allZero_eq_false_iff]
  exact ⟨fun ⟨hxs, hsf, htm⟩ e => match e with
    | .xs => hxs
    | .sfmt => hsf
    | .tmt => htm, fun h => ⟨h .xs, h .sfmt, h .tmt⟩⟩

theorem armedEngineOk_congr {e : Engine} (h : sameEngine e s t) (hok : ArmedEngineOk e s) : ArmedEngineOk e t := by
  rwa [ArmedEngineOk, armed_congr h, zeroState_congr h]

theorem armedEngineOk_of_unarmed {e : Engine} (h : armed e s = false) : ArmedEngineOk e s := by
  simp [ArmedEngineOk, h]

/-- R110 step 9, read backwards. -/
theorem nonzero_of_checkNonzero {e : Engine} (h : checkNonzero e s = none) : zeroState e s = false := by
  by_contra hzero
  rw [checkNonzero_of_zero (Bool.not_eq_false _ ▸ hzero)] at h
  cases h

theorem allZero_iff_eq_replicate {w n : Nat} (bank : Vector (BitVec w) n) :
    allZero bank = true ↔ bank = Vector.replicate n 0#w := by
  rw [allZero_iff]
  constructor
  · exact fun h => bank_ext fun k hk => (h k hk).trans (readWord_replicate_zero k).symm
  · rintro rfl k -
    exact readWord_replicate_zero k

theorem allZero_xsStep (ring : Vector U64 16) (p : BitVec 4) : allZero (xsStep ring p).1 = allZero ring := by
  obtain ⟨-, -, hzero⟩ := xsStepKeepsNonzeroRings p
  rw [Bool.eq_iff_iff, allZero_iff_eq_replicate, allZero_iff_eq_replicate]
  exact hzero ring

theorem allZero_sfRefill (msk : Vector U32 4) (words : Vector U32 624) :
    allZero (sfRefill msk words) = allZero words := by
  obtain ⟨-, -, hzero⟩ := refillKeepsNonzeroStates msk
  rw [Bool.eq_iff_iff, allZero_iff_eq_replicate, allZero_iff_eq_replicate]
  exact hzero words

/-- A certified state is odd under K1, so a word of lane 0 is not 0. -/
theorem allZero_sfmtCert (hv : validConfig s.cfg = true) : allZero (effectOf .sfmtCert s).sfW = false := by
  obtain ⟨hK1, -⟩ := (validConfig_iff s.cfg).mp hv
  obtain ⟨k, hk, hne⟩ := exists_word_ne_zero_of_sfParity_one (sfParity_effectOf_sfmtCert hK1)
  exact (allZero_eq_false_iff _).mpr ⟨k, Nat.lt_trans hk (by decide), hne⟩

/-- A certified status is not degenerate, the rescue constant by K2. -/
theorem tmDegenerate_tmCertify (hv : validConfig s.cfg = true) (st : Vector U32 4) :
    tmDegenerate (tmCertify s.cfg.tmtRescue st).1 = false := by
  obtain ⟨-, hK2, -⟩ := (validConfig_iff s.cfg).mp hv
  cases h : tmDegenerate st with
  | true => rwa [TinyMtEngine.tmCertify_of_degenerate _ h]
  | false => rwa [TinyMtEngine.tmCertify_of_not_degenerate _ h]

theorem armedEngineOk_sfmtNext (h : ArmedEngineOk .sfmt s) : ArmedEngineOk .sfmt (effectOf .sfmtNext s) := by
  by_cases hend : s.sfIdx = 624
  · rw [effectOf_sfmtNext_exhausted hend]
    exact fun harmed => (allZero_sfRefill _ _).trans (h harmed)
  · rw [effectOf_sfmtNext_buffered hend]
    exact h

/-- The command's own engine is disarmed, left alone, advanced, or armed on a state that was checked or certified. -/
theorem armedEngineOk_effectOf {i : Instr} {e : Engine} (hv : validConfig s.cfg = true)
    (hpass : acceptCheck i s = none) (hused : engineUsed i = some e) (h : ArmedEngineOk e s) :
    ArmedEngineOk e (effectOf i s) := by
  cases i with
  | nop | clrerr => cases hused
  | xsLdw | sfmtLdw | tmtLdw | xsErst | sfmtErst | tmtErst =>
    cases hused
    exact armedEngineOk_of_unarmed rfl
  | xsRdw | sfmtRdw | tmtRdw | xsLdp | sfmtLdp | xsRdp | sfmtRdp =>
    cases hused
    exact h
  | xsNext | xsAdv =>
    cases hused
    exact fun harmed => (allZero_xsStep _ _).trans (h harmed)
  | sfmtNext =>
    cases hused
    exact armedEngineOk_sfmtNext h
  | sfmtRefill =>
    cases hused
    exact fun harmed => (allZero_sfRefill _ _).trans (h harmed)
  | tmtNext | tmtAdv =>
    cases hused
    obtain ⟨hdegenerate, -⟩ := TinyMtEngine.tmStepKeepsDegeneracy s.cfg.tmtMat1 s.cfg.tmtMat2
    exact fun harmed => (hdegenerate s.tmS).trans (h harmed)
  | xsCert | xsArm | sfmtArm | tmtArm =>
    cases hused
    exact fun _ => nonzero_of_checkNonzero hpass
  | sfmtCert =>
    cases hused
    exact fun _ => allZero_sfmtCert hv
  | tmtCert =>
    cases hused
    exact fun _ => tmDegenerate_tmCertify hv s.tmS

theorem armedOk_congr (h : SameEngines s t) (hok : armedOk s) : armedOk t :=
  (armedOk_iff t).mpr fun e => armedEngineOk_congr (h e) ((armedOk_iff s).mp hok e)

theorem armedOk_effectOf {i : Instr} (hv : validConfig s.cfg = true) (hpass : acceptCheck i s = none)
    (hok : armedOk s) : armedOk (effectOf i s) := by
  rw [armedOk_iff] at *
  intro e
  by_cases hused : engineUsed i = some e
  · exact armedEngineOk_effectOf hv hpass hused (hok e)
  · exact armedEngineOk_congr (effectOf_sameEngine hused s) (hok e)

/-- The certifications rest on K1 and K2, so the invariant is kept together with the configuration. -/
theorem keptByStep_armedOk : KeptByStep fun s => validConfig s.cfg = true ∧ armedOk s where
  record e s := fun ⟨hv, hok⟩ =>
    ⟨by rwa [recordError_cfg], armedOk_congr (fun g => sameEngine_recordError (sameEngine_refl g s) e) hok⟩
  rdata _ _ h := h
  din _ _ h := h
  pend _ _ h := h
  port _ _ h := h
  effect i s hpass := fun ⟨hv, hok⟩ => by
    obtain ⟨-, hcfg, -⟩ := effectOf_frame i s
    exact ⟨by rwa [hcfg], armedOk_effectOf hv hpass hok⟩
  reset s := fun ⟨hv, _⟩ => ⟨hv, (armedOk_iff _).mpr fun e => armedEngineOk_of_unarmed (by cases e <;> rfl)⟩

/-- Settles O57: an effect writes one engine; the advances and the refill send no nonzero state to zero (O13, O21, O31),
and what arms an engine has checked its state or certified it. -/
theorem stepKeepsArmedEnginesNonzero : Obligations.StepKeepsArmedEnginesNonzero := by
  intro s t hok hstep
  obtain ⟨hv, -⟩ := step_cases hstep
  obtain ⟨-, hokt⟩ := keptByStep_armedOk.after_step hstep ⟨hv, hok⟩
  exact hokt

/-! ### The pending command (10_state.md R47, 20_memory.md R78) -/

theorem pendOk_of_idle (h : s.pend = none) : pendOk s := by
  simp [pendOk, h]

theorem pendOk_of_pend {p : Pend} {i : Instr} (hp : s.pend = some p) (hl : 0 < p.left) (hd : decode p.cmd = .ok i)
    (hcheck : acceptCheck i s = none) : pendOk s := by
  intro q hq
  obtain rfl := Option.some.inj (hp.symm.trans hq)
  exact ⟨hl, i, hd, hcheck⟩

/-- A check that passed passes again, with the same operand in PEND and the same engines. -/
theorem pendOk_congr {p q : Pend} (hok : pendOk s) (hp : s.pend = some p) (hq : t.pend = some q)
    (hengines : SameEngines s t) (hcmd : q.cmd = p.cmd) (hdin : q.din = p.din) (hl : 0 < q.left) : pendOk t := by
  obtain ⟨-, i, hd, hcheck⟩ := hok p hp
  have hoperand : operandDin t = operandDin s := by
    rw [operandDin_of_pend hq, operandDin_of_pend hp, hdin]
  exact pendOk_of_pend hq hl (hcmd ▸ hd) ((acceptCheck_congr i hengines hoperand).trans hcheck)

/-- A presented command goes into an empty PEND only when it has passed its check (R78), and with a latency of at least
1 (K5). -/
theorem presentCommand_pendOk (c : U32) (hv : validConfig s.cfg = true) (hp : s.pend = none) :
    pendOk (presentCommand c s) := by
  obtain ⟨-, heq⟩ | ⟨-, e, -, heq⟩ | ⟨-, -, e, -, -, heq⟩ | ⟨-, i, hd, hcheck, heq⟩ := presentCommand_cases c s
  · exact pendOk_of_idle (by rw [heq, recordError_pend, hp])
  · exact pendOk_of_idle (by rw [heq, recordError_pend, hp])
  · exact pendOk_of_idle (by rw [heq, recordError_pend, hp])
  · rw [heq]
    exact pendOk_of_pend (latchPend_pend c _ s) (latencyOf_pos i hv) hd
      ((acceptCheck_latchPend i c _ 0 s).trans hcheck)

theorem writeAccess_pendOk (offset bytes : Nat) (v : U64) (hv : validConfig s.cfg = true) (hp : s.pend = none) :
    pendOk (writeAccess offset bytes v s) := by
  obtain ⟨-, -, heq⟩ | ⟨d, heq⟩ | heq := writeAccess_cases offset bytes v s
  · rw [heq]
    exact presentCommand_pendOk _ hv hp
  · exact pendOk_of_idle (by rw [heq, hp])
  · exact pendOk_of_idle (by rw [heq, recordError_pend, hp])

theorem hostAccess_pendOk {a : Access} (ha : hostAccess a s = .next u) (hv : validConfig s.cfg = true)
    (hok : pendOk s) : pendOk u := by
  cases hp : s.pend with
  | some p =>
    obtain ⟨hengines, -⟩ := (keptByAccess_showsNoEffect s).after_hostAccess ha (showsNoEffect_refl s)
    obtain ⟨hl, -⟩ := hok p hp
    exact pendOk_congr hok hp (hostAccess_pend_of_full ha hp) hengines rfl rfl hl
  | none =>
    obtain ⟨addr, bytes, -, -, rfl⟩ | ⟨addr, bytes, v, -, -, rfl⟩ := hostAccess_cases ha
    · exact pendOk_of_idle (by rw [readAccess_pend, hp])
    · exact writeAccess_pendOk _ bytes v hv hp

theorem endOfStep_pendOk (he : endOfStep s = .next t) (hok : pendOk s) : pendOk t := by
  obtain ⟨-, rfl⟩ | ⟨p, hp, hl, rfl⟩ | ⟨p, i, -, -, -, hx⟩ | ⟨p, e, -, -, -, rfl⟩ := endOfStep_cases he
  · exact hok
  · exact pendOk_congr hok hp rfl (sameEngine_refl · s) rfl rfl (Nat.sub_pos_of_lt hl)
  · obtain ⟨t', hx', hempty⟩ := exec_answers i s
    obtain rfl := Host.Outcome.next.inj (hx'.symm.trans hx)
    exact pendOk_of_idle hempty
  · exact pendOk_of_idle (by rw [recordError_pend, emptyPend_pend])

/-- Settles O58: a command gets into PEND through its check, and while it waits nothing writes the engines or its
latched operand. -/
theorem stepKeepsPendingCommandAccepted : Obligations.StepKeepsPendingCommandAccepted := by
  intro s t hok hstep
  obtain ⟨hv, ⟨-, he⟩ | ⟨rest, -, he⟩ | ⟨rest, -, rfl⟩ | ⟨a, rest, u, -, ha, he⟩⟩ := step_cases hstep
  · exact endOfStep_pendOk he hok
  · exact endOfStep_pendOk he (s := { s with port := rest }) hok
  · exact pendOk_of_idle rfl
  · exact endOfStep_pendOk he (hostAccess_pendOk ha hv (s := { s with port := rest }) hok)

end Sys2Proof.StepInvariant
end

section
/-! Reset (10_state.md section 5, 70_reset_and_hazards.md section 1): its values, what the commands do right after it,
and that it meets every invariant. -/

namespace Sys2Proof.Reset

open Sys2Proof.Machine Sys2Proof.StateAccess Sys2Proof.Xorshift Sys2Proof.Certification Sys2Proof.BlockStep
  Sys2Proof.StepInvariant

/-- Settles O52: the reset values are R49's, bank by bank zero, and the reset event is defined by them. -/
theorem resetGivesStatedValues : Obligations.ResetGivesStatedValues := by
  refine ⟨fun k _ => readWord_replicate_zero k, rfl, fun k _ => readWord_replicate_zero k, rfl,
    fun k _ => readWord_replicate_zero k, rfl, rfl, rfl, rfl, rfl, rfl, rfl, rfl, rfl, rfl, fun _ => rfl⟩

/-- Settles O53: the reset event is not followed by the end of a step, so nothing completes. -/
theorem resetEventAbandonsPending : Obligations.ResetEventAbandonsPending := fun _ _ hv hport => step_of_reset hv hport

/-! ### Commands right after reset (R332) -/

/-- The state right after reset of a block with parameters `cfg`. -/
def afterReset (cfg : Params) : State := { State.reset with cfg := cfg }

theorem armed_afterReset (cfg : Params) (e : Engine) : armed e (afterReset cfg) = false := by
  cases e <;> rfl

theorem tmDegenerate_replicate_zero : tmDegenerate (Vector.replicate 4 0) = true := by decide

theorem zeroState_afterReset (cfg : Params) (e : Engine) : zeroState e (afterReset cfg) = true := by
  cases e with
  | xs => exact (allZero_iff_eq_replicate _).mpr rfl
  | sfmt => exact (allZero_iff_eq_replicate _).mpr rfl
  | tmt => exact tmDegenerate_replicate_zero

theorem sfParity_afterReset (cfg : Params) : sfParity cfg.sfmtParity (afterReset cfg).sfW ≠ 1 := by
  have heven : sfParity cfg.sfmtParity (afterReset cfg).sfW = 0 :=
    sfParity_of_words_zero cfg.sfmtParity fun k _ => readWord_replicate_zero k
  rw [heven]
  decide

/-- With bit 0 in the parity mask, SF_FIX of zero words sets bit 0 in either mode. -/
theorem sfFix_zero_of_bit_zero (mode : CertFix) {parity : Vector U32 4} (hbit : bankBit parity 0 = true) :
    sfFix mode parity (Vector.replicate 624 0) = writeWord (Vector.replicate 624 0) 0 1 := by
  have hword : readWord (Vector.replicate 624 (0 : U32)) (0 / 32) = 0 := readWord_replicate_zero 0
  have hunset : bankBit (Vector.replicate 624 (0 : U32)) 0 = false := by
    rw [bankBit, hword]
    rfl
  have hfind : sfFixBit mode parity (Vector.replicate 624 0) = some 0 :=
    (sfFixBit_eq_some_iff mode parity _ 0).mpr
      ⟨by decide, ⟨hbit, .inr hunset⟩, fun j hj => absurd hj (Nat.not_lt_zero j)⟩
  have hone : (0 : U32) ^^^ ((1 : U32) <<< (0 % 32)) = 1 := rfl
  rw [sfFix_of_some hfind, flipBankBit, hword, hone]

/-- Settles O54: after reset no engine is armed and every state is zero, so the checks of NEXT, ADV, REFILL, ARM and
XS.CERT fail, and the other two certifications have a zero state to mend. -/
theorem afterResetAdvanceFailsSfmtAndTmtCertArm : Obligations.AfterResetAdvanceFailsSfmtAndTmtCertArm := by
  intro cfg s
  have hunarmed (e : Engine) : checkArmed e s = some .notArmed := checkArmed_of_unarmed (armed_afterReset cfg e)
  have hzero (e : Engine) : checkNonzero e s = some .degenerate := checkNonzero_of_zero (zeroState_afterReset cfg e)
  obtain ⟨-, -, hodd, heven⟩ := sfmtCertCommandRuns
  have hcert := heven s (sfParity_afterReset cfg)
  refine ⟨failsWith_of_check (i := .xsNext) (hunarmed .xs), failsWith_of_check (i := .xsAdv) (hunarmed .xs),
    failsWith_of_check (i := .sfmtNext) (hunarmed .sfmt), failsWith_of_check (i := .sfmtRefill) (hunarmed .sfmt),
    failsWith_of_check (i := .tmtNext) (hunarmed .tmt), failsWith_of_check (i := .tmtAdv) (hunarmed .tmt),
    failsWith_of_check (i := .xsCert) (hzero .xs), failsWith_of_check (i := .xsArm) (hzero .xs),
    failsWith_of_check (i := .sfmtArm) (hzero .sfmt), failsWith_of_check (i := .tmtArm) (hzero .tmt), ?_, hcert, ?_⟩
  · obtain ⟨-, -, hdegenerate, -⟩ := TinyMtEngine.tmtCertifyCommandsRun
    exact (hdegenerate s (zeroState_afterReset cfg .tmt)).1
  · intro hparity
    have hbit : bankBit cfg.sfmtParity 0 = true := by
      rw [hparity]
      rfl
    rw [hcert, ← sfFix_zero_of_bit_zero cfg.sfmtCertFix hbit]
    rfl

/-- Settles O59: the record is clear, the cursor is at 624, nothing is armed or pending, and the default parameters are
evaluated. -/
theorem resetIsGoodState : Obligations.ResetIsGoodState := by
  refine ⟨errorRecordOk_of_clear rfl rfl, le_refl 624, (armedOk_iff _).mpr fun e => ?_, pendOk_of_idle rfl, ?_⟩
  · exact armedEngineOk_of_unarmed (armed_afterReset Params.default e)
  · decide

end Sys2Proof.Reset
end

section
/-! The default xorshift1024* seed (48_host_procedures.md R271). The seed word has bit 0 set, xorshift64* sends no
nonzero word to zero, and its output is a nonzero word times an odd constant. -/

namespace Sys2Proof.SeedProcedure

open Sys2Proof.Machine Sys2Proof.Xorshift

theorem xor_ushiftRight_ne_zero {w n : Nat} (hn : 0 < n) {x : BitVec w} (h : x ≠ 0#w) : x ^^^ (x >>> n) ≠ 0#w :=
  fun hzero => h (eq_zero_of_eq_ushiftRight hn (BitVec.xor_eq_zero_iff.mp hzero))

theorem xor_shiftLeft_ne_zero {w n : Nat} (hn : 0 < n) {x : BitVec w} (h : x ≠ 0#w) : x ^^^ (x <<< n) ≠ 0#w :=
  fun hzero => h (eq_zero_of_eq_shiftLeft hn (BitVec.xor_eq_zero_iff.mp hzero))

/-- The three xorshifts of R272. -/
theorem xs64Next_state_ne_zero {r : U64} (h : r ≠ 0) : (xs64Next r).2 ≠ 0 :=
  xor_ushiftRight_ne_zero (by decide) (xor_shiftLeft_ne_zero (by decide) (xor_ushiftRight_ne_zero (by decide) h))

/-- The multiplier of R272 is odd, so it has an inverse modulo 2^64. -/
theorem xs64Next_output_ne_zero {r : U64} (h : r ≠ 0) : (xs64Next r).1 ≠ 0 := by
  have houtput : (xs64Next r).1 * 6415128727920758069 = (xs64Next r).2 := by
    have hinverse : (2685821657736338717 : U64) * 6415128727920758069 = 1#64 := by decide
    show (xs64Next r).2 * 2685821657736338717 * 6415128727920758069 = (xs64Next r).2
    rw [BitVec.mul_assoc, hinverse, BitVec.mul_one]
  intro (hzero : (xs64Next r).1 = 0#64)
  rw [hzero, BitVec.zero_mul] at houtput
  exact xs64Next_state_ne_zero h houtput.symm

theorem xsSeedOutputs_length (n : Nat) (r : U64) (acc : List U64) :
    (xsSeedOutputs n r acc).length = n + acc.length := by
  induction n generalizing r acc with
  | zero => simp [xsSeedOutputs]
  | succ n ih => rw [xsSeedOutputs, ih, List.length_cons]; omega

/-- What stands in the list stays there. -/
theorem mem_xsSeedOutputs {w : U64} (n : Nat) (r : U64) {acc : List U64} (h : w ∈ acc) :
    w ∈ xsSeedOutputs n r acc := by
  induction n generalizing r acc with
  | zero => exact h
  | succ n ih => exact ih _ (List.mem_cons_of_mem _ h)

theorem xsSeedWord_ne_zero (r1 r2 r3 : BitVec 21) : xsSeedWord r1 r2 r3 ≠ 0 := by
  intro hzero
  have hbit := congrArg (·.getLsbD 0) hzero
  simp [xsSeedWord] at hbit

/-- Settles O60: the first output of a nonzero seed word is not 0 (`xs64Next_output_ne_zero`), and stays in the list. -/
theorem xsSeedNeverGivesZeroRing : Obligations.XsSeedNeverGivesZeroRing := by
  intro a1 a2 a3
  have hseed := xsSeedWord_ne_zero (hostIntReduce 21 a1) (hostIntReduce 21 a2) (hostIntReduce 21 a3)
  exact ⟨xsSeedOutputs_length 16 _ [], _, mem_xsSeedOutputs 15 _ (List.mem_singleton_self _),
    xs64Next_output_ne_zero hseed⟩

end Sys2Proof.SeedProcedure
end
